-- ==== Sys2Proof/Word.lean ====
section
/-! DEFINITION. The widths the spec names: the 32-bit registers and command word (10_state.md R21, R31; 30_encoding.md
R70), the byte of buffer `B` and the 16-bit word of buffer `W` (10_state.md R34). Durations are exact rationals, the
type `Rat` (00_scope.md R6, `DurDomain`). -/

namespace Sys2Proof

/-- A register of `PW = 32` bits (00_scope.md R6). An integer parameter register is read as a signed number (`toInt`). -/
abbrev Word := BitVec 32

/-- An element of buffer `B`, 0 to 255. -/
abbrev Byte := BitVec 8

/-- An element of buffer `W`, 0 to 65535. -/
abbrev Half := BitVec 16

end Sys2Proof
end

