-- ==== Sys2Proof/Syntax.lean ====
section
/-! DEFINITION. The command set: one constructor per row of spec/opcode_table.json, in the table's order. A command has
no operand field (30_encoding.md R70), so no constructor takes an argument. -/

namespace Sys2Proof

/-- A command of IRGEN-CORE (30_encoding.md R71 to R73). -/
inductive Instr where
  /-- RESET (48_system.md R270). -/
  | reset
  /-- U2B (40_primitives.md R101). -/
  | u2b
  /-- B2U (40_primitives.md R103). -/
  | b2u
  /-- BITIFY (40_primitives.md R105). -/
  | bitify
  /-- UNBITIFY (40_primitives.md R110). -/
  | unbitify
  /-- SIMPLIFY (41_normalizer.md R120). -/
  | simplify
  /-- PAIRED (41_normalizer.md R124). -/
  | paired
  /-- TRIM.L (41_normalizer.md R128). -/
  | trimL
  /-- TRIM.T (41_normalizer.md R129). -/
  | trimT
  /-- REPEAT (41_normalizer.md R132). -/
  | repeatSignal
  /-- ENC.NEC1 (42_nec.md R140). -/
  | encNec1
  /-- ENC.NEC2 (42_nec.md R140). -/
  | encNec2
  /-- ENC.NECX1 (42_nec.md R140). -/
  | encNecx1
  /-- ENC.NECX2 (42_nec.md R140). -/
  | encNecx2
  /-- ENC.NEC1.Y1 (42_nec.md R140). -/
  | encNec1Y1
  /-- ENC.NEC2.Y1 (42_nec.md R140). -/
  | encNec2Y1
  /-- ENC.NECX1.Y1 (42_nec.md R140). -/
  | encNecx1Y1
  /-- ENC.NECX2.Y1 (42_nec.md R140). -/
  | encNecx2Y1
  /-- ENC.NEC1.Y2 (42_nec.md R140). -/
  | encNec1Y2
  /-- ENC.NEC2.Y2 (42_nec.md R140). -/
  | encNec2Y2
  /-- ENC.NECX1.Y2 (42_nec.md R140). -/
  | encNecx1Y2
  /-- ENC.NECX2.Y2 (42_nec.md R140). -/
  | encNecx2Y2
  /-- ENC.NEC1.Y3 (42_nec.md R140). -/
  | encNec1Y3
  /-- ENC.NEC2.Y3 (42_nec.md R140). -/
  | encNec2Y3
  /-- ENC.NECX1.Y3 (42_nec.md R140). -/
  | encNecx1Y3
  /-- ENC.NECX2.Y3 (42_nec.md R140). -/
  | encNecx2Y3
  /-- ENC.NEC1.F16 (42_nec.md R140). -/
  | encNec1F16
  /-- ENC.NEC2.F16 (42_nec.md R140). -/
  | encNec2F16
  /-- ENC.NECX1.F16 (42_nec.md R140). -/
  | encNecx1F16
  /-- ENC.NECX2.F16 (42_nec.md R140). -/
  | encNecx2F16
  /-- ENC.RC5 (43_rc5.md R160). -/
  | encRc5
  /-- ENC.RC6 (44_rc6.md R180). -/
  | encRc6
  /-- ENC.RCA38 (45_rca38.md R200). -/
  | encRca38
  /-- DEC.RC5 (43_rc5.md R165). -/
  | decRc5
  /-- DEC.RC6 (44_rc6.md R185). -/
  | decRc6
  /-- BL.ENC (46_broadlink.md R210). -/
  | blEnc
  /-- BL.DEC (46_broadlink.md R220). -/
  | blDec
  /-- PRONTO.ENC.DEF (47_pronto.md R240). -/
  | prontoEncDef
  /-- PRONTO.ENC.BASE (47_pronto.md R240). -/
  | prontoEncBase
  /-- PRONTO.ENC.FREQ (47_pronto.md R240). -/
  | prontoEncFreq
  /-- PRONTO.DEC (47_pronto.md R250). -/
  | prontoDec
deriving DecidableEq, Repr

/-- The four variants of the NEC family (30_encoding.md R73). -/
inductive NecVariant where
  | nec1
  | nec2
  | necx1
  | necx2
deriving DecidableEq, Repr

/-- The five suffixes of the NEC family (30_encoding.md R73): `standard` is the suffix none. -/
inductive NecSuffix where
  | standard
  | y1
  | y2
  | y3
  | f16
deriving DecidableEq, Repr

end Sys2Proof
end

