-- ==== Sys2Proof/WellFormed.lean ====
section
/-! DEFINITION. Legality of a command word, field by field (30_encoding.md R70 to R73, R76). A command itself carries no
operand (R70), so every term of `Instr` is well formed; what can be ill formed is the word the host writes. -/

namespace Sys2Proof

/-- Bits 7:0, `OP`. -/
def opField (w : Word) : Byte := w.extractLsb' 0 8

/-- Bits 15:8, `MOD`. -/
def modField (w : Word) : Byte := w.extractLsb' 8 8

/-- Bits 31:16 are 0, as R70 requires. -/
def reservedClear (w : Word) : Bool := w.extractLsb' 16 16 == 0#16

/-- `OP` is in the table of R71. -/
def opKnown (op : Byte) : Bool :=
  [0x01#8, 0x10#8, 0x11#8, 0x12#8, 0x13#8, 0x20#8, 0x21#8, 0x22#8, 0x23#8, 0x30#8, 0x31#8, 0x32#8, 0x33#8,
   0x39#8, 0x3A#8, 0x40#8, 0x41#8, 0x48#8, 0x49#8].contains op

/-- `MOD` of an NEC encoder (R73): `MOD[7:5]` is 0 and the suffix `MOD[4:2]` is at most 4. -/
def necModifierAllowed (mod : Byte) : Bool :=
  mod.extractLsb' 5 3 == 0#3 && (mod.extractLsb' 2 3).toNat ≤ 4

/-- `MOD` is allowed for `OP` (R72, R73): a side for TRIM, a clock source for PRONTO.ENC, variant and suffix for
ENC.NEC, and 0 for every other `OP`. -/
def modAllowed (op mod : Byte) : Bool :=
  if op = 0x22#8 then mod.toNat ≤ 1
  else if op = 0x48#8 then mod.toNat ≤ 2
  else if op = 0x30#8 then necModifierAllowed mod
  else mod == 0#8

/-- A legal command word (R76, read positively). -/
def legalWord (w : Word) : Bool :=
  reservedClear w && opKnown (opField w) && modAllowed (opField w) (modField w)

/-- Every command is well formed: it has no field that could be out of range (R70). -/
def Instr.wellFormed (_ : Instr) : Bool := true

end Sys2Proof
end

