-- ==== Sys2Proof/Decode.lean ====
section
/-! DEFINITION. Decoding is an exact match of the whole 32-bit word against the 41 legal words (48_system.md R271); the
encoder is written from the fields of 30_encoding.md R70 to R73, apart from that list. -/

namespace Sys2Proof

/-- Why a command word is illegal (30_encoding.md R76). All three raise the one error IllegalCommand. -/
inductive DecodeError where
  /-- One of bits 31:16 is 1. -/
  | reservedBits
  /-- `OP` is not in the table of R71. -/
  | unknownOp
  /-- `MOD` is not allowed for this `OP` by R72 and R73. -/
  | badModifier
deriving DecidableEq, Repr

/-- The 41 legal command words (opcode_table.json; 42_nec.md R149 for the twenty NEC words). -/
def legalWords : List (Word × Instr) :=
  [(0x00000001#32, .reset),
   (0x00000010#32, .u2b),
   (0x00000011#32, .b2u),
   (0x00000012#32, .bitify),
   (0x00000013#32, .unbitify),
   (0x00000020#32, .simplify),
   (0x00000021#32, .paired),
   (0x00000022#32, .trimL),
   (0x00000122#32, .trimT),
   (0x00000023#32, .repeatSignal),
   (0x00000030#32, .encNec1),
   (0x00000130#32, .encNec2),
   (0x00000230#32, .encNecx1),
   (0x00000330#32, .encNecx2),
   (0x00000430#32, .encNec1Y1),
   (0x00000530#32, .encNec2Y1),
   (0x00000630#32, .encNecx1Y1),
   (0x00000730#32, .encNecx2Y1),
   (0x00000830#32, .encNec1Y2),
   (0x00000930#32, .encNec2Y2),
   (0x00000A30#32, .encNecx1Y2),
   (0x00000B30#32, .encNecx2Y2),
   (0x00000C30#32, .encNec1Y3),
   (0x00000D30#32, .encNec2Y3),
   (0x00000E30#32, .encNecx1Y3),
   (0x00000F30#32, .encNecx2Y3),
   (0x00001030#32, .encNec1F16),
   (0x00001130#32, .encNec2F16),
   (0x00001230#32, .encNecx1F16),
   (0x00001330#32, .encNecx2F16),
   (0x00000031#32, .encRc5),
   (0x00000032#32, .encRc6),
   (0x00000033#32, .encRca38),
   (0x00000039#32, .decRc5),
   (0x0000003A#32, .decRc6),
   (0x00000040#32, .blEnc),
   (0x00000041#32, .blDec),
   (0x00000048#32, .prontoEncDef),
   (0x00000148#32, .prontoEncBase),
   (0x00000248#32, .prontoEncFreq),
   (0x00000049#32, .prontoDec)]

/-- The command of the first row whose word is `w`. -/
def lookupWord (w : Word) : List (Word × Instr) → Option Instr
  | [] => none
  | row :: rows => if row.1 = w then some row.2 else lookupWord w rows

/-- Which test of R76 an illegal word fails, in the order bits 31:16, `OP`, `MOD`. -/
def illegalReason (w : Word) : DecodeError :=
  if ¬ reservedClear w then .reservedBits
  else if ¬ opKnown (opField w) then .unknownOp
  else .badModifier

/-- The command a word written to `CMD` selects, or why it is illegal. -/
def decode (w : Word) : Except DecodeError Instr :=
  match lookupWord w legalWords with
  | some i => .ok i
  | none => .error (illegalReason w)

/-- `MOD[1:0]` of an NEC encoder (30_encoding.md R73). -/
def variantCode : NecVariant → Nat
  | .nec1 => 0
  | .nec2 => 1
  | .necx1 => 2
  | .necx2 => 3

/-- `MOD[4:2]` of an NEC encoder (30_encoding.md R73). -/
def suffixCode : NecSuffix → Nat
  | .standard => 0
  | .y1 => 1
  | .y2 => 2
  | .y3 => 3
  | .f16 => 4

/-- The modifier of an NEC encoder, `variant + 4 · suffix` (30_encoding.md R73). -/
def necModifier (v : NecVariant) (x : NecSuffix) : Byte := BitVec.ofNat 8 (variantCode v + 4 * suffixCode x)

/-- The fields `OP` and `MOD` of a command (30_encoding.md R71 to R73). -/
def Instr.fields : Instr → Byte × Byte
  | .reset => (0x01#8, 0#8)
  | .u2b => (0x10#8, 0#8)
  | .b2u => (0x11#8, 0#8)
  | .bitify => (0x12#8, 0#8)
  | .unbitify => (0x13#8, 0#8)
  | .simplify => (0x20#8, 0#8)
  | .paired => (0x21#8, 0#8)
  | .trimL => (0x22#8, 0#8)
  | .trimT => (0x22#8, 1#8)
  | .repeatSignal => (0x23#8, 0#8)
  | .encNec1 => (0x30#8, necModifier .nec1 .standard)
  | .encNec2 => (0x30#8, necModifier .nec2 .standard)
  | .encNecx1 => (0x30#8, necModifier .necx1 .standard)
  | .encNecx2 => (0x30#8, necModifier .necx2 .standard)
  | .encNec1Y1 => (0x30#8, necModifier .nec1 .y1)
  | .encNec2Y1 => (0x30#8, necModifier .nec2 .y1)
  | .encNecx1Y1 => (0x30#8, necModifier .necx1 .y1)
  | .encNecx2Y1 => (0x30#8, necModifier .necx2 .y1)
  | .encNec1Y2 => (0x30#8, necModifier .nec1 .y2)
  | .encNec2Y2 => (0x30#8, necModifier .nec2 .y2)
  | .encNecx1Y2 => (0x30#8, necModifier .necx1 .y2)
  | .encNecx2Y2 => (0x30#8, necModifier .necx2 .y2)
  | .encNec1Y3 => (0x30#8, necModifier .nec1 .y3)
  | .encNec2Y3 => (0x30#8, necModifier .nec2 .y3)
  | .encNecx1Y3 => (0x30#8, necModifier .necx1 .y3)
  | .encNecx2Y3 => (0x30#8, necModifier .necx2 .y3)
  | .encNec1F16 => (0x30#8, necModifier .nec1 .f16)
  | .encNec2F16 => (0x30#8, necModifier .nec2 .f16)
  | .encNecx1F16 => (0x30#8, necModifier .necx1 .f16)
  | .encNecx2F16 => (0x30#8, necModifier .necx2 .f16)
  | .encRc5 => (0x31#8, 0#8)
  | .encRc6 => (0x32#8, 0#8)
  | .encRca38 => (0x33#8, 0#8)
  | .decRc5 => (0x39#8, 0#8)
  | .decRc6 => (0x3A#8, 0#8)
  | .blEnc => (0x40#8, 0#8)
  | .blDec => (0x41#8, 0#8)
  | .prontoEncDef => (0x48#8, 0#8)
  | .prontoEncBase => (0x48#8, 1#8)
  | .prontoEncFreq => (0x48#8, 2#8)
  | .prontoDec => (0x49#8, 0#8)

/-- The command word with the given `OP` and `MOD` and bits 31:16 zero (30_encoding.md R70). -/
def commandWord (op mod : Byte) : Word := 0#16 ++ mod ++ op

/-- The command word of a command. -/
def encode (i : Instr) : Word := commandWord i.fields.1 i.fields.2

/-- The command read from the table's `nbits` bits of `w`, every bit above them 0. `CMD` is one 32-bit register: the
word is not stored as bytes, so no byte order enters. -/
def decodeTableWord (nbits w : Nat) : Option Instr :=
  match decode (BitVec.ofNat 32 (w % 2 ^ nbits)) with
  | .ok i => some i
  | .error _ => none

end Sys2Proof
end

