-- ==== Sys2Proof/Config.lean ====
section
/-! DEFINITION. The implementation parameters of 00_scope.md R6 that the spec leaves to the implementation or keeps as a
table. They are configuration, not state: no operation changes them (10_state.md R37). -/

namespace Sys2Proof

/-- How `round` resolves an exact half (00_scope.md R6, R8; `RoundTie`). -/
inductive RoundTie where
  /-- Round half to even, the spec's choice (decision D3). -/
  | halfEven
  /-- Round half away from zero, the OPEN alternative (93_implementation_defined.md U7). -/
  | halfAway
deriving DecidableEq, Repr, Inhabited

/-- A positive rational, `(numPred + 1) / (denPred + 1)`: the type of `U_NEC`, which 00_scope.md R6 (decision D14)
calls a positive rational and which the model must require to be positive (93_implementation_defined.md U5). -/
structure PosRat where
  numPred : Nat
  denPred : Nat
deriving DecidableEq, Repr, Inhabited

/-- The rational a `PosRat` stands for. -/
def PosRat.val (p : PosRat) : Rat := ((p.numPred + 1 : Nat) : Rat) / ((p.denPred + 1 : Nat) : Rat)

/-- The table `NEC_LEADER`: the leader mark of each NEC variant in unit-lengths (42_nec.md R145). -/
structure NecLeader where
  nec1 : Nat
  nec2 : Nat
  necx1 : Nat
  necx2 : Nat
deriving DecidableEq, Repr, Inhabited

/-- One implementation's parameters. A capacity of `none` is unbounded (10_state.md R34). -/
structure Config where
  /-- `RoundTie`. -/
  roundTie : RoundTie
  /-- `U_NEC`, the NEC unit length in microseconds (42_nec.md R146). -/
  uNec : PosRat
  /-- `NEC_LEADER`. -/
  necLeader : NecLeader
  /-- `DCAP`. -/
  dcap : Option Nat
  /-- `ECAP`. -/
  ecap : Option Nat
  /-- `BCAP`. -/
  bcap : Option Nat
  /-- `WCAP`. -/
  wcap : Option Nat
  /-- `SCAP`. -/
  scap : Option Nat
deriving DecidableEq, Repr, Inhabited

/-- FREE VALUE (log 3): the NEC unit length of the implementation at hand. The source does not give it (42_nec.md R146:
`OPEN`), so it has no body and no proof can see its value. -/
opaque Config.openUNec : PosRat

end Sys2Proof
end

