-- ==== Sys2Proof/Machine/Constants.lean ====
section
/-! DEFINITION. The constants the source fixes and the spec's defaults for the OPEN parameters (00_scope.md R6). -/

namespace Sys2Proof

/-- The configuration of `State.reset`: half to even, unbounded capacities and the source's leader marks are the spec's
defaults (00_scope.md R6); the NEC unit length is free (log 2, log 3). -/
def Config.standard : Config where
  roundTie := .halfEven
  uNec := Config.openUNec
  necLeader := { nec1 := 16, nec2 := 8, necx1 := 16, necx2 := 8 }
  dcap := none
  ecap := none
  bcap := none
  wcap := none
  scap := none

namespace Machine

/-- `PW`, the width of an integer parameter register (00_scope.md R6). -/
def pw : Int := 32

/-- `U_RC5`, microseconds (00_scope.md R6). -/
def uRc5 : Rat := 889

/-- `U_RC6`, microseconds (00_scope.md R6). -/
def uRc6 : Rat := 444

/-- `U_RCA38`, microseconds (00_scope.md R6). -/
def uRca38 : Rat := 460

/-- `TOL`, in units (00_scope.md R6). -/
def tolerance : Rat := 1 / 10

/-- `BL_SCALE`, Broadlink ticks per microsecond (00_scope.md R6). -/
def blScale : Rat := 269 / 8192

/-- Microseconds per Broadlink tick, the inverse of `BL_SCALE` (30_encoding.md R89). -/
def blUnscale : Rat := 8192 / 269

/-- `BL_TRAIL`, microseconds (46_broadlink.md R213). -/
def blTrail : Rat := -101502

/-- `PRONTO_CLOCK`, microseconds per base count (00_scope.md R6). -/
def prontoClock : Rat := 120623 / 500000

/-- `PRONTO_DEFAULT_FREQ`, cycles per microsecond (00_scope.md R6; 90_conflicts.md C3). -/
def prontoDefaultFreq : Rat := 1 / 25

/-- The largest value of a 16-bit field. -/
def max16 : Int := 65535

end Machine

end Sys2Proof
end

