-- ==== Sys2Proof/Machine/State.lean ====
section
/-! DEFINITION. The state of IRGEN-CORE (10_state.md R20), the actions the host can perform on it (20_memory.md R52), the
errors an operation can raise (60_exceptions.md R300) and the reset state (10_state.md R38). -/

namespace Sys2Proof.Machine

/-- The six error kinds (60_exceptions.md R300). Each is a state of the block (FAULT), not a stop of the machine. -/
inductive Err where
  /-- Code 1: a numeric operand is out of the range an operation requires. -/
  | domain
  /-- Code 2: the Duration `d` is not within 1/10 unit of a multiple of `u`; `e` is the error in units (R108). -/
  | timing (d u e : Rat)
  /-- Code 3: a bit pair or structural pattern matches no valid encoding. -/
  | protocolDecode
  /-- Code 4: a wire payload violates its fixed framing. -/
  | format
  /-- Code 5: the word written to `CMD` is not a legal command word. -/
  | illegalCommand
  /-- Code 6: a result is longer than the capacity of its destination buffer. -/
  | overflow
deriving DecidableEq, Repr

/-- The twelve integer parameter registers (10_state.md R21). -/
inductive IntReg where
  | device | subdevice | function | toggle | mode | value | width | count | blrep | base | n1 | n2
deriving DecidableEq, Repr

/-- The three rational parameter registers (10_state.md R27). -/
inductive RatReg where
  | unit | trail | freq
deriving DecidableEq, Repr

/-- The five sequence buffers (10_state.md R34). -/
inductive Buf where
  | bufD | bufE | bufB | bufW | bufS
deriving DecidableEq, Repr

/-- What the host can `GET` (20_memory.md R52; 10_state.md R31 to R34). -/
inductive Reg where
  /-- An integer parameter register. -/
  | int (r : IntReg)
  /-- A rational parameter register. -/
  | rat (r : RatReg)
  /-- `STATUS`. -/
  | status
  /-- `E_VALUE`. -/
  | eValue
  /-- `E_UNIT`. -/
  | eUnit
  /-- `E_ERROR`. -/
  | eError
  /-- `CMD`, which reads 0 (R33). -/
  | cmd
  /-- The length of a buffer (R34). -/
  | length (b : Buf)
deriving DecidableEq, Repr

/-- One action of the host, or the hardware reset (20_memory.md R52; 70_reset_and_hazards.md R330). A value outside the
target's type cannot be expressed on the bus (R52), and the types here exclude it. -/
inductive HostAction where
  /-- `SET` of an integer parameter register. -/
  | setInt (r : IntReg) (v : Word)
  /-- `SET` of a rational parameter register. -/
  | setRat (r : RatReg) (v : Rat)
  /-- `LOAD D`. -/
  | loadD (xs : List Rat)
  /-- `LOAD E`. -/
  | loadE (xs : List Rat)
  /-- `LOAD B`. -/
  | loadB (xs : List Byte)
  /-- `LOAD W`. -/
  | loadW (xs : List Half)
  /-- `LOAD S`. -/
  | loadS (xs : List Bool)
  /-- `GET`. -/
  | get (r : Reg)
  /-- `READ`. -/
  | read (b : Buf)
  /-- The write of a word to `CMD` (30_encoding.md R70). -/
  | cmd (c : Word)
  /-- The hardware reset (70_reset_and_hazards.md R330). -/
  | hardwareReset
deriving DecidableEq, Repr

/-- What a `GET` or a `READ` returns to the host. -/
inductive Answer where
  /-- A 32-bit register. -/
  | word (v : Word)
  /-- A rational register. -/
  | rat (v : Rat)
  /-- The length of a buffer. -/
  | length (n : Nat)
  /-- The content of `D` or `E`. -/
  | signal (xs : List Rat)
  /-- The content of `B`. -/
  | bytes (xs : List Byte)
  /-- The content of `W`. -/
  | halves (xs : List Half)
  /-- The content of `S`. -/
  | bits (xs : List Bool)
deriving DecidableEq, Repr

/-- The reasons the machine would STOP with a fault. There is none: every error of the block is a next state, the FAULT
state (60_exceptions.md R304), and the block never halts (48_system.md R272). Log 6; safe. -/
inductive Fault
deriving DecidableEq, Repr

/-- The reasons a step is refused. -/
inductive Refusal where
  /-- Raised by `exec` for a command that has no meaning yet; safe. -/
  | notModelled (mnemonic : String)
  /-- Raised by a host access, other than `GET STATUS`, while `STATUS.BUSY` is 1: "what happens if it does is not defined
  by this spec" (20_memory.md R67; 93_implementation_defined.md U2: refuse). No reachable state has it; safe (log 4). -/
  | hostAccessWhileBusy
  /-- Raised by a `LOAD` longer than the buffer's capacity: "cannot be expressed" and "outside the model" (20_memory.md
  R52; 93_implementation_defined.md U3: refuse). With unbounded capacities it never occurs; safe (log 4). -/
  | loadOverCapacity (b : Buf)
deriving DecidableEq, Repr

/-- The state. Up to `bufS` it is the complete architectural state of 10_state.md R20; `cfg`, `pending` and `answers` are
the model's own fields (log 1, log 2). -/
structure State where
  /-- `P_DEVICE`. -/
  pDevice : Word
  /-- `P_SUBDEVICE`. -/
  pSubdevice : Word
  /-- `P_FUNCTION`. -/
  pFunction : Word
  /-- `P_TOGGLE`. -/
  pToggle : Word
  /-- `P_MODE`. -/
  pMode : Word
  /-- `P_VALUE`. -/
  pValue : Word
  /-- `P_WIDTH`. -/
  pWidth : Word
  /-- `P_COUNT`. -/
  pCount : Word
  /-- `P_BLREP`. -/
  pBlrep : Word
  /-- `P_BASE`. -/
  pBase : Word
  /-- `P_N1`. -/
  pN1 : Word
  /-- `P_N2`. -/
  pN2 : Word
  /-- `Q_UNIT`. -/
  qUnit : Rat
  /-- `Q_TRAIL`. -/
  qTrail : Rat
  /-- `Q_FREQ`. -/
  qFreq : Rat
  /-- `STATUS`; its fields are read and written in Machine/Flags.lean. -/
  status : Word
  /-- `E_VALUE`. -/
  eValue : Rat
  /-- `E_UNIT`. -/
  eUnit : Rat
  /-- `E_ERROR`. -/
  eError : Rat
  /-- Buffer `D`. -/
  bufD : List Rat
  /-- Buffer `E`. -/
  bufE : List Rat
  /-- Buffer `B`. -/
  bufB : List Byte
  /-- Buffer `W`. -/
  bufW : List Half
  /-- Buffer `S`, most significant bit first (20_memory.md R59). -/
  bufS : List Bool
  /-- The implementation's parameters (10_state.md R37); no step changes them. -/
  cfg : Config
  /-- The host's actions still to be performed, in order (20_memory.md R62; log 1). -/
  pending : List HostAction
  /-- What `GET` and `READ` have returned, oldest first (log 1). -/
  answers : List Answer
deriving DecidableEq, Repr

/-- The answer of a meaning and of a step. -/
abbrev Result := Host.Outcome State Fault Refusal

/-- The machine right after reset (10_state.md R38), in the standard configuration, with no host action pending. -/
def State.reset : State where
  pDevice := 0
  pSubdevice := BitVec.ofInt 32 (-1)
  pFunction := 0
  pToggle := 0
  pMode := 0
  pValue := 0
  pWidth := 0
  pCount := 0
  pBlrep := 0
  pBase := 0
  pN1 := 0
  pN2 := 0
  qUnit := 0
  qTrail := 0
  qFreq := 0
  status := 0
  eValue := 0
  eUnit := 0
  eError := 0
  bufD := []
  bufE := []
  bufB := []
  bufW := []
  bufS := []
  cfg := Config.standard
  pending := []
  answers := []

end Sys2Proof.Machine
end

