-- ==== Sys2Proof/Machine/Flags.lean ====
section
/-! DEFINITION. The fields of `STATUS` (10_state.md R31) and the error codes (60_exceptions.md R300). -/

namespace Sys2Proof.Machine

/-- Bit 0 of a `STATUS` word, `FAULT`. -/
def statusFault (w : Word) : Bool := w.getLsbD 0

/-- Bit 1 of a `STATUS` word, `WARN`. -/
def statusWarn (w : Word) : Bool := w.getLsbD 1

/-- Bit 2 of a `STATUS` word, `BUSY`. -/
def statusBusy (w : Word) : Bool := w.getLsbD 2

/-- Bits 6:4 of a `STATUS` word, `ERR`. -/
def statusErr (w : Word) : BitVec 3 := w.extractLsb' 4 3

/-- The `STATUS` word with the given fields and every reserved bit 0 (10_state.md R31). -/
def statusWord (fault warn busy : Bool) (err : BitVec 3) : Word :=
  0#25 ++ err ++ 0#1 ++ BitVec.ofBool busy ++ BitVec.ofBool warn ++ BitVec.ofBool fault

/-- `STATUS.FAULT`: the block is in the FAULT state (60_exceptions.md R305). -/
def State.fault (s : State) : Bool := statusFault s.status

/-- `STATUS.WARN` (60_exceptions.md R310). -/
def State.warn (s : State) : Bool := statusWarn s.status

/-- `STATUS.BUSY` (70_reset_and_hazards.md R350). -/
def State.busy (s : State) : Bool := statusBusy s.status

/-- `STATUS.ERR` (60_exceptions.md R300). -/
def State.err (s : State) : BitVec 3 := statusErr s.status

/-- The code of an error kind (60_exceptions.md R300). -/
def Err.code : Err → BitVec 3
  | .domain => 1
  | .timing _ _ _ => 2
  | .protocolDecode => 3
  | .format => 4
  | .illegalCommand => 5
  | .overflow => 6

/-- What an error records in `E_VALUE` (60_exceptions.md R304). -/
def Err.value : Err → Rat
  | .timing d _ _ => d
  | .domain => 0
  | .protocolDecode => 0
  | .format => 0
  | .illegalCommand => 0
  | .overflow => 0

/-- What an error records in `E_UNIT` (60_exceptions.md R304). -/
def Err.unitLength : Err → Rat
  | .timing _ u _ => u
  | .domain => 0
  | .protocolDecode => 0
  | .format => 0
  | .illegalCommand => 0
  | .overflow => 0

/-- What an error records in `E_ERROR` (60_exceptions.md R304). -/
def Err.unitError : Err → Rat
  | .timing _ _ e => e
  | .domain => 0
  | .protocolDecode => 0
  | .format => 0
  | .illegalCommand => 0
  | .overflow => 0

end Sys2Proof.Machine
end

