-- ==== Sys2Proof/Machine/Ops.lean ====
section
/-! DEFINITION. The named operations over registers and buffers: the commit of a result (20_memory.md R54), raising an
error (60_exceptions.md R304), the reset that leaves the FAULT state (R306), and the host's reads and writes (20_memory.md
R52). -/

namespace Sys2Proof.Machine

/-- RAISING AN ERROR, for every operation (60_exceptions.md R304): FAULT becomes 1, ERR the kind's code, the three `E_`
registers the error's information or 0; WARN and everything else are unchanged. -/
def State.raise (s : State) (e : Err) : State :=
  { s with
    status := statusWord true s.warn s.busy e.code
    eValue := e.value
    eUnit := e.unitLength
    eError := e.unitError }

/-- THE RETURN FROM A FAULT, which is reset (60_exceptions.md R306; 48_system.md R270; 70_reset_and_hazards.md R330): every
register and buffer gets its reset value. The configuration and the host's own lists are not the block's to reset. -/
def State.clear (s : State) : State :=
  { State.reset with cfg := s.cfg, pending := s.pending, answers := s.answers }

/-- Setting `STATUS.WARN`, bit 1, and no other bit (60_exceptions.md R310; 10_state.md R31). -/
def State.setWarn (s : State) : State := { s with status := s.status ||| 2#32 }

/-- The sequence length `n` fits a buffer of capacity `cap`; `none` is unbounded (10_state.md R34). -/
def fits (cap : Option Nat) (n : Nat) : Bool :=
  match cap with
  | none => true
  | some c => n ≤ c

/-- The capacity test, made last, on a result computed without error (60_exceptions.md R303, R307). -/
def bounded {β : Type} (cap : Option Nat) (size : β → Nat) (r : Except Err β) : Except Err β :=
  match r with
  | .error e => .error e
  | .ok v => if fits cap (size v) then .ok v else .error .overflow

/-- ATOMIC COMMIT (00_scope.md R12; 60_exceptions.md R304): all of an operation's writes, or one error and none. -/
def settle {β : Type} (s : State) (r : Except Err β) (write : β → State) : State :=
  match r with
  | .ok v => write v
  | .error e => s.raise e

/-- Replacing the whole content of `D` (20_memory.md R54). -/
def State.putD (s : State) (xs : List Rat) : State := { s with bufD := xs }

/-- Replacing the whole content of `E`. -/
def State.putE (s : State) (xs : List Rat) : State := { s with bufE := xs }

/-- Replacing the whole content of `B`. -/
def State.putB (s : State) (xs : List Byte) : State := { s with bufB := xs }

/-- Replacing the whole content of `W`. -/
def State.putW (s : State) (xs : List Half) : State := { s with bufW := xs }

/-- Replacing the whole content of `S`. -/
def State.putS (s : State) (xs : List Bool) : State := { s with bufS := xs }

/-- Computing a new `D`: the capacity test and the commit. -/
def commitD (s : State) (r : Except Err (List Rat)) : State := settle s (bounded s.cfg.dcap List.length r) s.putD

/-- Reading an integer parameter register (10_state.md R21). -/
def State.intReg (s : State) : IntReg → Word
  | .device => s.pDevice
  | .subdevice => s.pSubdevice
  | .function => s.pFunction
  | .toggle => s.pToggle
  | .mode => s.pMode
  | .value => s.pValue
  | .width => s.pWidth
  | .count => s.pCount
  | .blrep => s.pBlrep
  | .base => s.pBase
  | .n1 => s.pN1
  | .n2 => s.pN2

/-- Writing an integer parameter register; none aliases another (10_state.md R21). -/
def State.setInt (s : State) (r : IntReg) (v : Word) : State :=
  match r with
  | .device => { s with pDevice := v }
  | .subdevice => { s with pSubdevice := v }
  | .function => { s with pFunction := v }
  | .toggle => { s with pToggle := v }
  | .mode => { s with pMode := v }
  | .value => { s with pValue := v }
  | .width => { s with pWidth := v }
  | .count => { s with pCount := v }
  | .blrep => { s with pBlrep := v }
  | .base => { s with pBase := v }
  | .n1 => { s with pN1 := v }
  | .n2 => { s with pN2 := v }

/-- Reading a rational parameter register (10_state.md R27). -/
def State.ratReg (s : State) : RatReg → Rat
  | .unit => s.qUnit
  | .trail => s.qTrail
  | .freq => s.qFreq

/-- Writing a rational parameter register (10_state.md R27). -/
def State.setRat (s : State) (r : RatReg) (v : Rat) : State :=
  match r with
  | .unit => { s with qUnit := v }
  | .trail => { s with qTrail := v }
  | .freq => { s with qFreq := v }

/-- The length of a buffer, `len(D)` and so on (10_state.md R34). -/
def State.bufLength (s : State) : Buf → Nat
  | .bufD => s.bufD.length
  | .bufE => s.bufE.length
  | .bufB => s.bufB.length
  | .bufW => s.bufW.length
  | .bufS => s.bufS.length

/-- What `GET` returns (20_memory.md R52); `CMD` reads 0 (10_state.md R33). -/
def State.getReg (s : State) : Reg → Answer
  | .int r => .word (s.intReg r)
  | .rat r => .rat (s.ratReg r)
  | .status => .word s.status
  | .eValue => .rat s.eValue
  | .eUnit => .rat s.eUnit
  | .eError => .rat s.eError
  | .cmd => .word 0
  | .length b => .length (s.bufLength b)

/-- What `READ` returns: the whole content, and with it the length (20_memory.md R52). -/
def State.readBuf (s : State) : Buf → Answer
  | .bufD => .signal s.bufD
  | .bufE => .signal s.bufE
  | .bufB => .bytes s.bufB
  | .bufW => .halves s.bufW
  | .bufS => .bits s.bufS

/-- Handing a value to the host (log 1). -/
def State.answer (s : State) (a : Answer) : State := { s with answers := s.answers ++ [a] }

/-- Taking the oldest action off the host's list (log 1). -/
def State.withPending (s : State) (rest : List HostAction) : State := { s with pending := rest }

end Sys2Proof.Machine
end

