-- ==== Sys2Proof/Machine/Operands.lean ====
section
/-! DEFINITION. Operand forms shared by the operations: rounding (00_scope.md R8), sign and class (R9), the bit-string
primitives (40_primitives.md R101, R103) and the symbol codes of one logical bit (30_encoding.md R78 to R82). -/

namespace Sys2Proof.Machine

/-- `|x|` (00_scope.md R7). -/
def absRat (x : Rat) : Rat := if 0 ≤ x then x else -x

/-- `sign(x)` (00_scope.md R9). -/
def signRat (x : Rat) : Int := if 0 < x then 1 else if x < 0 then -1 else 0

/-- `cls(x)`: a zero counts as a mark (00_scope.md R9). -/
def cls (x : Rat) : Int := if x < 0 then -1 else 1

/-- The integer an exact half `f + 1/2` rounds to (00_scope.md R6, `RoundTie`). -/
def roundHalf (tie : RoundTie) (f : Int) : Int :=
  match tie with
  | .halfEven => if f % 2 = 0 then f else f + 1
  | .halfAway => if 0 ≤ f then f + 1 else f

/-- `round(x)` (00_scope.md R8). -/
def roundRat (tie : RoundTie) (x : Rat) : Int :=
  let f := x.floor
  let frac := x - (f : Rat)
  if frac < 1 / 2 then f else if 1 / 2 < frac then f + 1 else roundHalf tie f

/-- `round1(x)`, the nearest multiple of 1/10 (00_scope.md R8). -/
def roundTenth (tie : RoundTie) (x : Rat) : Rat := (roundRat tie (10 * x) : Rat) / 10

/-- `int(x)` for `x ≥ 0` (00_scope.md R8). -/
def truncRat (x : Rat) : Int := x.floor

/-- The low `n` bits of `v`, most significant first (00_scope.md R10). -/
def bitsMsb : Nat → Nat → List Bool
  | 0, _ => []
  | n + 1, v => v.testBit n :: bitsMsb n v

/-- `U2B(v, w)` (40_primitives.md R101). -/
def u2b (v w : Int) : Except Err (List Bool) :=
  if w < 0 ∨ pw - 1 < w then .error .domain
  else
    let bias : Int := 2 ^ w.toNat
    let biased := if v < 0 then v + bias else v
    if biased < 0 ∨ bias - 1 < biased then .error .domain
    else .ok (bitsMsb w.toNat biased.toNat)

/-- One step of `B2U`: the string so far is worth `v` and its next symbol is `b`. -/
def b2uStep (v : Nat) (b : Bool) : Nat := 2 * v + b.toNat

/-- `B2U(bits)` (40_primitives.md R103): the first symbol is the most significant. -/
def b2u (bits : List Bool) : Nat := bits.foldl b2uStep 0

/-- `nec_bit` (30_encoding.md R78). -/
def necBit (b : Bool) : List Int := if b then [1, -3] else [1, -1]

/-- `rc5_bit` (30_encoding.md R79). -/
def rc5Bit (b : Bool) : List Int := if b then [-1, 1] else [1, -1]

/-- `rc6_bit` (30_encoding.md R80). -/
def rc6Bit (b : Bool) : List Int := if b then [1, -1] else [-1, 1]

/-- `rc6_tog`, the double-width symbol (30_encoding.md R80). -/
def rc6Tog (b : Bool) : List Int := if b then [2, -2] else [-2, 2]

/-- `rca_bit` (30_encoding.md R81). -/
def rcaBit (b : Bool) : List Int := if b then [1, -4] else [1, -2]

/-- `rca_inv` (30_encoding.md R81). -/
def rcaInv (b : Bool) : List Int := rcaBit (!b)

/-- `field(v, w, code)`: `v` in `w` bits, most significant first, each bit by `code` (30_encoding.md R82). -/
def field (v w : Int) (code : Bool → List Int) : Except Err (List Int) :=
  (u2b v w).map fun bits => bits.flatMap code

/-- `nec_byte(v)`: eight bits, least significant first (30_encoding.md R78; 42_nec.md R141). -/
def necByte (v : Int) : Except Err (List Int) :=
  (u2b v 8).map fun bits => bits.reverse.flatMap necBit

end Sys2Proof.Machine
end

