-- ==== Sys2Proof/Machine/Signal.lean ====
section
/-! DEFINITION. The functions on raw signals and tick sequences that several operations share: `bitify` and `unbitify`
(40_primitives.md R105, R110), `simplify`, `paired`, the two trims and the repetition (41_normalizer.md R120 to R132). -/

namespace Sys2Proof.Machine

/-- The ticks of one Duration, or its TimingToleranceError (40_primitives.md R105, R108). -/
def bitifyOne (tie : RoundTie) (u d : Rat) : Except Err (List Int) :=
  let n := roundRat tie (absRat d / u)
  let e := absRat (absRat d - (n : Rat) * u) / u
  if tolerance < e then .error (.timing d u e) else .ok (List.replicate n.toNat (signRat d))

/-- The ticks of every Duration in order; the first error in sequence order is the one raised. -/
def bitifyAll (tie : RoundTie) (u : Rat) : List Rat → Except Err (List Int)
  | [] => .ok []
  | d :: ds =>
    match bitifyOne tie u d with
    | .error e => .error e
    | .ok run =>
      match bitifyAll tie u ds with
      | .error e => .error e
      | .ok rest => .ok (run ++ rest)

/-- `bitify(ds, u)` (40_primitives.md R105, R107). -/
def bitify (tie : RoundTie) (ds : List Rat) (u : Rat) : Except Err (List Int) :=
  if u ≤ 0 then .error .domain else bitifyAll tie u ds

/-- `unbitify(ts, u)`; the elements need not be integers (40_primitives.md R110). -/
def unbitify (ts : List Rat) (u : Rat) : List Rat := ts.map fun t => t * u

/-- A tick sequence as elements of buffer `D` (10_state.md R34). -/
def ticksToD (ts : List Int) : List Rat := ts.map fun t => (t : Rat)

/-- A protocol encoder's tick sequence rescaled to Durations (43_rc5.md R161). -/
def rescale (ts : List Int) (u : Rat) : List Rat := unbitify (ticksToD ts) u

/-- The loop of `simplify` with the run `acc` being accumulated, 0 for none yet (41_normalizer.md R120). -/
def simplifyFrom (acc : Rat) : List Rat → List Rat
  | [] => if acc = 0 then [] else [acc]
  | x :: xs =>
    if x = 0 then simplifyFrom acc xs
    else if acc = 0 then (if 0 < x then simplifyFrom x xs else simplifyFrom acc xs)
    else if signRat x = signRat acc then simplifyFrom (acc + x) xs
    else acc :: simplifyFrom x xs

/-- `simplify(xs)` (41_normalizer.md R120). -/
def simplify (xs : List Rat) : List Rat := simplifyFrom 0 xs

/-- The loop of `paired` with the expected class `expected` and the trailing silence `ts` (41_normalizer.md R124). -/
def pairedFrom (ts : Rat) (expected : Int) : List Rat → List Rat
  | [] => if expected = -1 then [ts] else []
  | x :: xs =>
    if cls x ≠ expected then 0 :: x :: pairedFrom ts expected xs else x :: pairedFrom ts (-expected) xs

/-- `paired(xs, ts)` (41_normalizer.md R124; 90_conflicts.md C1). -/
def paired (xs : List Rat) (ts : Rat) : List Rat := pairedFrom ts 1 xs

/-- `trim_leading(xs)` (41_normalizer.md R128). -/
def trimLeading : List Rat → List Rat
  | [] => []
  | x :: xs => if x ≤ 0 then trimLeading xs else x :: xs

/-- `trim_trailing(xs)` (41_normalizer.md R129). -/
def trimTrailing (xs : List Rat) : List Rat := (trimLeading xs.reverse).reverse

/-- `n` copies of a signal in all when `n > 1`, else the signal (41_normalizer.md R132). -/
def repeatSequence (n : Int) (xs : List Rat) : List Rat :=
  if 1 < n then (List.replicate n.toNat xs).flatten else xs

end Sys2Proof.Machine
end

