-- ==== Sys2Proof/Machine/Broadlink.lean ====
section
/-! DEFINITION. The Broadlink codec BL.ENC, BL.DEC (46_broadlink.md; layout 30_encoding.md R87 to R89). -/

namespace Sys2Proof.Machine

/-- The scaled magnitude of a Duration, `round(|d| · 269/8192)` (30_encoding.md R89). -/
def blMagnitude (tie : RoundTie) (d : Rat) : Int := roundRat tie (absRat d * blScale)

/-- The payload entry of a magnitude: one byte, also for 0 (46_broadlink.md R214), or an escape and 16 bits big-endian
(30_encoding.md R88); DomainError above 65535 (46_broadlink.md R215). -/
def blEntry (m : Int) : Except Err (List Byte) :=
  if m ≤ 255 then .ok [BitVec.ofInt 8 m]
  else if m ≤ max16 then .ok [0x00#8, BitVec.ofInt 8 (m / 256), BitVec.ofInt 8 (m % 256)]
  else .error .domain

/-- The payload of a paired signal, one entry per Duration in order (46_broadlink.md R210). -/
def blPayload (tie : RoundTie) : List Rat → Except Err (List Byte)
  | [] => .ok []
  | d :: ds =>
    match blEntry (blMagnitude tie d) with
    | .error e => .error e
    | .ok entry =>
      match blPayload tie ds with
      | .error e => .error e
      | .ok rest => .ok (entry ++ rest)

/-- The number of padding bytes for a payload of `L` bytes (46_broadlink.md R216). -/
def blPad (L : Nat) : Nat := (16 - (L + 8) % 16) % 16

/-- The stream of a payload (30_encoding.md R87): tag, repeat byte, length little-endian, payload, padding. -/
def blStream (rb : Byte) (payload : List Byte) : List Byte :=
  [0x26#8, rb, BitVec.ofNat 8 (payload.length % 256), BitVec.ofNat 8 (payload.length / 256)] ++ payload
    ++ List.replicate (blPad payload.length) 0x00#8

/-- BL.ENC's result; the repeat byte is checked first, then the entries in order, then the length (46_broadlink.md R210,
R212, R215, R217). -/
def blEncode (tie : RoundTie) (rep : Int) (d : List Rat) : Except Err (List Byte) :=
  match u2b rep 8 with
  | .error e => .error e
  | .ok bits =>
    match blPayload tie (paired (simplify d) blTrail) with
    | .error e => .error e
    | .ok payload =>
      if max16 < (payload.length : Int) then .error .domain
      else .ok (blStream (BitVec.ofNat 8 (b2u bits)) payload)

/-- BL.ENC (46_broadlink.md R210). -/
def execBlEnc (s : State) : Result :=
  .next (settle s (bounded s.cfg.bcap List.length (blEncode s.cfg.roundTie s.pBlrep.toInt s.bufD)) s.putB)

/-- The magnitudes of a payload; an escape with fewer than two bytes left in it is a FormatError (46_broadlink.md R220,
R223). -/
def blMagnitudes : List Byte → Except Err (List Nat)
  | [] => .ok []
  | b :: rest =>
    if b ≠ 0x00#8 then
      match blMagnitudes rest with
      | .error e => .error e
      | .ok ms => .ok (b.toNat :: ms)
    else
      match rest with
      | high :: low :: more =>
        match blMagnitudes more with
        | .error e => .error e
        | .ok ms => .ok ((256 * high.toNat + low.toNat) :: ms)
      | _ => .error .format

/-- Durations of magnitudes, signs alternating from `mark` (46_broadlink.md R220, R224). -/
def blDurations (tie : RoundTie) (mark : Bool) : List Nat → List Rat
  | [] => []
  | m :: ms =>
    let d : Rat := (roundRat tie ((m : Rat) * blUnscale) : Rat)
    (if mark then d else -d) :: blDurations tie (!mark) ms

/-- What BL.DEC writes. -/
structure BlCode where
  repeats : Byte
  durations : List Rat
  warning : Bool
deriving DecidableEq, Repr

/-- The payload length of a header, little-endian (20_memory.md R56). -/
def blLength (low high : Byte) : Nat := low.toNat + 256 * high.toNat

/-- The part of BL.DEC after the tag test (46_broadlink.md R220): the header's length, the declared length, the entries,
the padding (R226). -/
def blDecodeBody (tie : RoundTie) : List Byte → Except Err BlCode
  | _ :: rep :: low :: high :: rest =>
    let L := blLength low high
    if rest.length < L then .error .format
    else
      match blMagnitudes (rest.take L) with
      | .error e => .error e
      | .ok ms =>
        .ok { repeats := rep, durations := blDurations tie true ms, warning := (rest.drop L).any fun b => b != 0x00#8 }
  | _ => .error .format

/-- BL.DEC's result (46_broadlink.md R220, R221). -/
def blDecode (tie : RoundTie) (bs : List Byte) : Except Err BlCode :=
  if bs.head? ≠ some 0x26#8 then .error .format else blDecodeBody tie bs

/-- The writes of BL.DEC: `D`, `P_BLREP`, and WARN when a padding byte is not zero (46_broadlink.md R220, R226). -/
def State.putBl (s : State) (c : BlCode) : State :=
  let t := { s with bufD := c.durations, pBlrep := BitVec.ofNat 32 c.repeats.toNat }
  if c.warning then t.setWarn else t

/-- BL.DEC (46_broadlink.md R220). -/
def execBlDec (s : State) : Result :=
  .next (settle s (bounded s.cfg.dcap (fun c => c.durations.length) (blDecode s.cfg.roundTie s.bufB)) s.putBl)

end Sys2Proof.Machine
end

