-- ==== Sys2Proof/Machine/Nec.lean ====
section
/-! DEFINITION. The NEC-family encoder (42_nec.md): four variants, five suffixes, twenty commands over one rule. -/

namespace Sys2Proof.Machine

/-- `NEC_LEADER[variant]` (42_nec.md R145). -/
def necLeaderOf (t : NecLeader) : NecVariant → Nat
  | .nec1 => t.nec1
  | .nec2 => t.nec2
  | .necx1 => t.necx1
  | .necx2 => t.necx2

/-- The value of the second byte: the subdevice, or the complement of the device for the sentinel (42_nec.md R142). -/
def necSecond (dev sub : Int) : Int := if 0 ≤ sub then sub else -dev - 1

/-- `fn mod 256` (42_nec.md R140). -/
def necThird (fn : Int) : Int := fn % 256

/-- Bitwise xor of two integers in 0 to 255 (00_scope.md R7). -/
def xorByte (x mask : Int) : Int := ((x.toNat ^^^ mask.toNat : Nat) : Int)

/-- `fourth(suffix, f, fn)` (42_nec.md R143). -/
def necFourth (suffix : NecSuffix) (f fn : Int) : Int :=
  match suffix with
  | .standard => -f - 1
  | .y1 => xorByte f 0x7F
  | .y2 => xorByte f 0xFE
  | .y3 => xorByte f 0x7E
  | .f16 => fn / 256

/-- The 68 ticks of an NEC frame; the bytes are checked in frame order (42_nec.md R140, R144). -/
def necFrame (t : NecLeader) (variant : NecVariant) (suffix : NecSuffix) (dev sub fn : Int) : Except Err (List Int) :=
  match necByte dev with
  | .error e => .error e
  | .ok first =>
    match necByte (necSecond dev sub) with
    | .error e => .error e
    | .ok second =>
      match necByte (necThird fn) with
      | .error e => .error e
      | .ok third =>
        match necByte (necFourth suffix (necThird fn) fn) with
        | .error e => .error e
        | .ok fourth =>
          .ok ([(necLeaderOf t variant : Int), -8] ++ first ++ second ++ third ++ fourth ++ [1, -3])

/-- The encoder of one variant and suffix: `D <- unbitify(frame, U_NEC)` (42_nec.md R140). -/
def necEncode (variant : NecVariant) (suffix : NecSuffix) (s : State) : State :=
  commitD s ((necFrame s.cfg.necLeader variant suffix s.pDevice.toInt s.pSubdevice.toInt s.pFunction.toInt).map
    fun ticks => rescale ticks s.cfg.uNec.val)

/-- ENC.NEC1 (42_nec.md R140). -/
def execEncNec1 (s : State) : Result := .next (necEncode .nec1 .standard s)

/-- ENC.NEC2 (42_nec.md R140). -/
def execEncNec2 (s : State) : Result := .next (necEncode .nec2 .standard s)

/-- ENC.NECX1 (42_nec.md R140). -/
def execEncNecx1 (s : State) : Result := .next (necEncode .necx1 .standard s)

/-- ENC.NECX2 (42_nec.md R140). -/
def execEncNecx2 (s : State) : Result := .next (necEncode .necx2 .standard s)

/-- ENC.NEC1.Y1 (42_nec.md R140). -/
def execEncNec1Y1 (s : State) : Result := .next (necEncode .nec1 .y1 s)

/-- ENC.NEC2.Y1 (42_nec.md R140). -/
def execEncNec2Y1 (s : State) : Result := .next (necEncode .nec2 .y1 s)

/-- ENC.NECX1.Y1 (42_nec.md R140). -/
def execEncNecx1Y1 (s : State) : Result := .next (necEncode .necx1 .y1 s)

/-- ENC.NECX2.Y1 (42_nec.md R140). -/
def execEncNecx2Y1 (s : State) : Result := .next (necEncode .necx2 .y1 s)

/-- ENC.NEC1.Y2 (42_nec.md R140). -/
def execEncNec1Y2 (s : State) : Result := .next (necEncode .nec1 .y2 s)

/-- ENC.NEC2.Y2 (42_nec.md R140). -/
def execEncNec2Y2 (s : State) : Result := .next (necEncode .nec2 .y2 s)

/-- ENC.NECX1.Y2 (42_nec.md R140). -/
def execEncNecx1Y2 (s : State) : Result := .next (necEncode .necx1 .y2 s)

/-- ENC.NECX2.Y2 (42_nec.md R140). -/
def execEncNecx2Y2 (s : State) : Result := .next (necEncode .necx2 .y2 s)

/-- ENC.NEC1.Y3 (42_nec.md R140). -/
def execEncNec1Y3 (s : State) : Result := .next (necEncode .nec1 .y3 s)

/-- ENC.NEC2.Y3 (42_nec.md R140). -/
def execEncNec2Y3 (s : State) : Result := .next (necEncode .nec2 .y3 s)

/-- ENC.NECX1.Y3 (42_nec.md R140). -/
def execEncNecx1Y3 (s : State) : Result := .next (necEncode .necx1 .y3 s)

/-- ENC.NECX2.Y3 (42_nec.md R140). -/
def execEncNecx2Y3 (s : State) : Result := .next (necEncode .necx2 .y3 s)

/-- ENC.NEC1.F16 (42_nec.md R140). -/
def execEncNec1F16 (s : State) : Result := .next (necEncode .nec1 .f16 s)

/-- ENC.NEC2.F16 (42_nec.md R140). -/
def execEncNec2F16 (s : State) : Result := .next (necEncode .nec2 .f16 s)

/-- ENC.NECX1.F16 (42_nec.md R140). -/
def execEncNecx1F16 (s : State) : Result := .next (necEncode .necx1 .f16 s)

/-- ENC.NECX2.F16 (42_nec.md R140). -/
def execEncNecx2F16 (s : State) : Result := .next (necEncode .necx2 .f16 s)

end Sys2Proof.Machine
end

