-- ==== Sys2Proof/Machine/Normalizer.lean ====
section
/-! DEFINITION. The raw-signal normalizer SIMPLIFY, PAIRED, TRIM.L, TRIM.T, REPEAT (41_normalizer.md). SIMPLIFY, TRIM.L
and TRIM.T raise no error: their result is never longer than their input. -/

namespace Sys2Proof.Machine

/-- SIMPLIFY (41_normalizer.md R120). -/
def execSimplify (s : State) : Result := .next (s.putD (simplify s.bufD))

/-- PAIRED (41_normalizer.md R124, R125). -/
def execPaired (s : State) : Result := .next (commitD s (.ok (paired s.bufD s.qTrail)))

/-- TRIM.L (41_normalizer.md R128). -/
def execTrimL (s : State) : Result := .next (s.putD (trimLeading s.bufD))

/-- TRIM.T (41_normalizer.md R129). -/
def execTrimT (s : State) : Result := .next (s.putD (trimTrailing s.bufD))

/-- REPEAT (41_normalizer.md R132): Overflow if `n · len(D) > DCAP`, only where copies are made. -/
def execRepeatSignal (s : State) : Result :=
  if 1 < s.pCount.toInt then .next (commitD s (.ok (repeatSequence s.pCount.toInt s.bufD)))
  else .next s

end Sys2Proof.Machine
end

