-- ==== Sys2Proof/Machine/Primitives.lean ====
section
/-! DEFINITION. The bit and timing primitives U2B, B2U, BITIFY, UNBITIFY (40_primitives.md). -/

namespace Sys2Proof.Machine

/-- U2B (40_primitives.md R101): `S <- U2B(P_VALUE, P_WIDTH)`. -/
def execU2b (s : State) : Result :=
  .next (settle s (bounded s.cfg.scap List.length (u2b s.pValue.toInt s.pWidth.toInt)) s.putS)

/-- The value B2U writes, refused when the string is longer than `PW − 1` symbols (40_primitives.md R103). -/
def b2uChecked (bits : List Bool) : Except Err Nat :=
  if pw - 1 < (bits.length : Int) then .error .domain else .ok (b2u bits)

/-- B2U (40_primitives.md R103): `P_VALUE <- B2U(S)`. -/
def execB2u (s : State) : Result :=
  .next (settle s (b2uChecked s.bufS) fun v => s.setInt .value (BitVec.ofNat 32 v))

/-- BITIFY (40_primitives.md R105): `D <- bitify(D, Q_UNIT)`. -/
def execBitify (s : State) : Result :=
  .next (commitD s ((bitify s.cfg.roundTie s.bufD s.qUnit).map ticksToD))

/-- UNBITIFY (40_primitives.md R110): `D <- unbitify(D, Q_UNIT)`, which never fails. -/
def execUnbitify (s : State) : Result :=
  .next (s.putD (unbitify s.bufD s.qUnit))

end Sys2Proof.Machine
end

