-- ==== Sys2Proof/Machine/Pronto.lean ====
section
/-! DEFINITION. The Pronto codec PRONTO.ENC.DEF, PRONTO.ENC.BASE, PRONTO.ENC.FREQ, PRONTO.DEC (47_pronto.md; layout
30_encoding.md R90, R91). -/

namespace Sys2Proof.Machine

/-- The clock of an encoding: word 1 and the frequency the counts are computed with (47_pronto.md R240, R242). -/
structure ProntoClock where
  base : Int
  freq : Rat
deriving DecidableEq, Repr

/-- Word 1 derived from a frequency, `int(1 / (freq · PRONTO_CLOCK))` (47_pronto.md R242). -/
def prontoBaseOf (freq : Rat) : Int := truncRat (1 / (freq * prontoClock))

/-- A base that fits word 1 (47_pronto.md R240, R245). -/
def prontoBaseOk (base : Int) : Bool := 1 ≤ base && base ≤ max16

/-- The clock of PRONTO.ENC.DEF (47_pronto.md R240, `MOD = 0`). -/
def prontoClockDef : Except Err ProntoClock :=
  .ok { base := prontoBaseOf prontoDefaultFreq, freq := prontoDefaultFreq }

/-- The clock of PRONTO.ENC.BASE (47_pronto.md R240, `MOD = 1`). -/
def prontoClockBase (base : Int) : Except Err ProntoClock :=
  if prontoBaseOk base then .ok { base := base, freq := 1 / ((base : Rat) * prontoClock) } else .error .domain

/-- The clock of PRONTO.ENC.FREQ (47_pronto.md R240, `MOD = 2`). -/
def prontoClockFreq (freq : Rat) : Except Err ProntoClock :=
  if freq ≤ 0 then .error .domain
  else if prontoBaseOk (prontoBaseOf freq) then .ok { base := prontoBaseOf freq, freq := freq }
  else .error .domain

/-- The count of a Duration, `int(|d| · freq)` (30_encoding.md R91; 47_pronto.md R244). -/
def prontoCount (freq d : Rat) : Int := truncRat (absRat d * freq)

/-- The counts of a paired signal; the first above 65535 raises DomainError (47_pronto.md R240, R245). -/
def prontoCounts (freq : Rat) : List Rat → Except Err (List Half)
  | [] => .ok []
  | d :: ds =>
    if max16 < prontoCount freq d then .error .domain
    else
      match prontoCounts freq ds with
      | .error e => .error e
      | .ok cs => .ok (BitVec.ofInt 16 (prontoCount freq d) :: cs)

/-- The code of two raw sequences under a clock: the pair counts are checked before the counts (47_pronto.md R240). -/
def prontoBody (c : ProntoClock) (d e : List Rat) : Except Err (List Half) :=
  let p1 := paired (simplify d) 0
  let p2 := paired (simplify e) 0
  let n1 := p1.length / 2
  let n2 := p2.length / 2
  if max16 < (n1 : Int) ∨ max16 < (n2 : Int) then .error .domain
  else
    match prontoCounts c.freq (p1 ++ p2) with
    | .error err => .error err
    | .ok counts => .ok ([0#16, BitVec.ofInt 16 c.base, BitVec.ofNat 16 n1, BitVec.ofNat 16 n2] ++ counts)

/-- The clock source is checked first (47_pronto.md R240). -/
def prontoEncode (clock : Except Err ProntoClock) (d e : List Rat) : Except Err (List Half) :=
  match clock with
  | .error err => .error err
  | .ok c => prontoBody c d e

/-- The commit of a Pronto code to `W`. -/
def commitW (s : State) (r : Except Err (List Half)) : State := settle s (bounded s.cfg.wcap List.length r) s.putW

/-- PRONTO.ENC.DEF (47_pronto.md R240). -/
def execProntoEncDef (s : State) : Result := .next (commitW s (prontoEncode prontoClockDef s.bufD s.bufE))

/-- PRONTO.ENC.BASE (47_pronto.md R240). -/
def execProntoEncBase (s : State) : Result :=
  .next (commitW s (prontoEncode (prontoClockBase s.pBase.toInt) s.bufD s.bufE))

/-- PRONTO.ENC.FREQ (47_pronto.md R240). -/
def execProntoEncFreq (s : State) : Result :=
  .next (commitW s (prontoEncode (prontoClockFreq s.qFreq) s.bufD s.bufE))

/-- The Durations of `k` (on, off) pairs of counts of `per` microseconds each (47_pronto.md R250). -/
def prontoDurations (tie : RoundTie) (per : Rat) : Nat → List Half → List Rat
  | k + 1, on :: off :: rest =>
    roundTenth tie ((on.toNat : Rat) * per) :: -roundTenth tie ((off.toNat : Rat) * per)
      :: prontoDurations tie per k rest
  | _, _ => []

/-- What PRONTO.DEC writes. -/
structure ProntoCode where
  base : Half
  n1 : Half
  n2 : Half
  durations : List Rat
deriving DecidableEq, Repr

/-- Microseconds per count, `base · PRONTO_CLOCK` (47_pronto.md R250, R251). -/
def prontoPeriod (base : Half) : Rat := (base.toNat : Rat) * prontoClock

/-- The part of PRONTO.DEC after the tag test (47_pronto.md R250): header length, base, data length, pairs; words beyond the
announced pairs are ignored (R254). -/
def prontoDecodeBody (tie : RoundTie) : List Half → Except Err ProntoCode
  | _ :: base :: n1 :: n2 :: rest =>
    if base = 0#16 then .error .format
    else if rest.length < 2 * (n1.toNat + n2.toNat) then .error .format
    else
      .ok { base := base, n1 := n1, n2 := n2,
            durations := prontoDurations tie (prontoPeriod base) (n1.toNat + n2.toNat) rest }
  | _ => .error .format

/-- PRONTO.DEC's result (47_pronto.md R250, R252). -/
def prontoDecode (tie : RoundTie) (ws : List Half) : Except Err ProntoCode :=
  if ws.head? ≠ some 0#16 then .error .format else prontoDecodeBody tie ws

/-- The writes of PRONTO.DEC (47_pronto.md R250, R255). -/
def State.putPronto (s : State) (c : ProntoCode) : State :=
  { s with
    bufD := c.durations
    pBase := BitVec.ofNat 32 c.base.toNat
    pN1 := BitVec.ofNat 32 c.n1.toNat
    pN2 := BitVec.ofNat 32 c.n2.toNat
    qFreq := 1 / prontoPeriod c.base }

/-- PRONTO.DEC (47_pronto.md R250). -/
def execProntoDec (s : State) : Result :=
  .next (settle s (bounded s.cfg.dcap (fun c => c.durations.length) (prontoDecode s.cfg.roundTie s.bufW)) s.putPronto)

end Sys2Proof.Machine
end

