-- ==== Sys2Proof/Machine/Rc5.lean ====
section
/-! DEFINITION. The RC5 codec ENC.RC5, DEC.RC5 (43_rc5.md), and the tick reader it shares with RC6 (R166). -/

namespace Sys2Proof.Machine

/-- The 29 ticks of an RC5 frame; toggle and device are checked in frame order (43_rc5.md R160). -/
def rc5Frame (dev fn tg : Int) : Except Err (List Int) :=
  match field tg 1 rc5Bit with
  | .error e => .error e
  | .ok toggle =>
    match field dev 5 rc5Bit with
    | .error e => .error e
    | .ok device =>
      match field (fn % 64) 6 rc5Bit with
      | .error e => .error e
      | .ok function =>
        .ok (rc5Bit true ++ rc5Bit (decide (fn < 64)) ++ toggle ++ device ++ function ++ [-100])

/-- ENC.RC5 (43_rc5.md R160). -/
def execEncRc5 (s : State) : Result :=
  .next (commitD s ((rc5Frame s.pDevice.toInt s.pFunction.toInt s.pToggle.toInt).map fun ticks => rescale ticks uRc5))

/-- `tick(T, i)`: past the end of the capture the carrier is off (43_rc5.md R166). -/
def tick (T : List Int) (i : Nat) : Int := T.getD i (-1)

/-- `rdbit()` of RC5 at tick `i` (43_rc5.md R168). -/
def rc5Read (T : List Int) (i : Nat) : Except Err Bool :=
  if tick T i = -1 ∧ tick T (i + 1) = 1 then .ok true
  else if tick T i = 1 ∧ tick T (i + 1) = -1 then .ok false
  else .error .protocolDecode

/-- `n` bits read by `rd`, two ticks each, the first at tick `i`. -/
def readBits (rd : Nat → Except Err Bool) (i : Nat) : Nat → Except Err (List Bool)
  | 0 => .ok []
  | n + 1 =>
    match rd i with
    | .error e => .error e
    | .ok b =>
      match readBits rd (i + 2) n with
      | .error e => .error e
      | .ok bs => .ok (b :: bs)

/-- What DEC.RC5 writes. -/
structure Rc5Code where
  device : Nat
  function : Nat
  toggle : Nat
deriving DecidableEq, Repr

/-- The function of an RC5 frame: a field bit of 0 adds 64 (43_rc5.md R162, R165). -/
def rc5Function (fieldBit : Bool) (low : List Bool) : Nat := if fieldBit then b2u low else b2u low + 64

/-- The frame read from a tick sequence: the start-bit mark, then field bit, toggle, device and function (43_rc5.md R165,
R167); nothing after the last function bit is required (R169). Every one of the thirteen pairs is tested (R168); R171's count of
twelve is not followed (log 9). -/
def rc5Parse (T : List Int) : Except Err Rc5Code :=
  if tick T 0 ≠ 1 then .error .protocolDecode
  else
    match rc5Read T 1 with
    | .error e => .error e
    | .ok fieldBit =>
      match rc5Read T 3 with
      | .error e => .error e
      | .ok tg =>
        match readBits (rc5Read T) 5 5 with
        | .error e => .error e
        | .ok dev =>
          match readBits (rc5Read T) 15 6 with
          | .error e => .error e
          | .ok low => .ok { device := b2u dev, function := rc5Function fieldBit low, toggle := tg.toNat }

/-- The whole signal is quantized before any bit is read (43_rc5.md R165; 90_conflicts.md C11). -/
def rc5Decode (tie : RoundTie) (d : List Rat) : Except Err Rc5Code :=
  match bitify tie (simplify d) uRc5 with
  | .error e => .error e
  | .ok T => rc5Parse T

/-- The registers DEC.RC5 writes (43_rc5.md R165). -/
def State.putRc5 (s : State) (c : Rc5Code) : State :=
  { s with
    pDevice := BitVec.ofNat 32 c.device
    pFunction := BitVec.ofNat 32 c.function
    pToggle := BitVec.ofNat 32 c.toggle }

/-- DEC.RC5 (43_rc5.md R165). -/
def execDecRc5 (s : State) : Result := .next (settle s (rc5Decode s.cfg.roundTie s.bufD) s.putRc5)

end Sys2Proof.Machine
end

