-- ==== Sys2Proof/Machine/Rc6.lean ====
section
/-! DEFINITION. The RC6 codec ENC.RC6, DEC.RC6 (44_rc6.md). -/

namespace Sys2Proof.Machine

/-- The 45 ticks of an RC6 frame; mode, toggle, device and function are checked in frame order (44_rc6.md R180). -/
def rc6Frame (dev fn tg mode : Int) : Except Err (List Int) :=
  match field mode 3 rc6Bit with
  | .error e => .error e
  | .ok modeTicks =>
    match field tg 1 rc6Tog with
    | .error e => .error e
    | .ok toggle =>
      match field dev 8 rc6Bit with
      | .error e => .error e
      | .ok device =>
        match field fn 8 rc6Bit with
        | .error e => .error e
        | .ok function => .ok ([6, -2] ++ rc6Bit true ++ modeTicks ++ toggle ++ device ++ function ++ [-6])

/-- ENC.RC6 (44_rc6.md R180). -/
def execEncRc6 (s : State) : Result :=
  .next (commitD s ((rc6Frame s.pDevice.toInt s.pFunction.toInt s.pToggle.toInt s.pMode.toInt).map
    fun ticks => rescale ticks uRc6))

/-- `rdbit6()` at tick `i` (44_rc6.md R187). -/
def rc6Read (T : List Int) (i : Nat) : Except Err Bool :=
  if tick T i = 1 ∧ tick T (i + 1) = -1 then .ok true
  else if tick T i = -1 ∧ tick T (i + 1) = 1 then .ok false
  else .error .protocolDecode

/-- The leader: six marks, then two spaces (44_rc6.md R185, R186). -/
def rc6LeaderOk (T : List Int) : Bool :=
  (List.range 6).all (fun k => tick T k = 1) && (List.range' 6 2).all (fun k => tick T k = -1)

/-- The toggle, recognized on four ticks at once from tick `i` (44_rc6.md R188). -/
def rc6ReadToggle (T : List Int) (i : Nat) : Except Err Bool :=
  let q := [tick T i, tick T (i + 1), tick T (i + 2), tick T (i + 3)]
  if q = [1, 1, -1, -1] then .ok true
  else if q = [-1, -1, 1, 1] then .ok false
  else .error .protocolDecode

/-- What DEC.RC6 writes. -/
structure Rc6Code where
  device : Nat
  function : Nat
  toggle : Nat
  mode : Nat
deriving DecidableEq, Repr

/-- The frame read from a tick sequence (44_rc6.md R185); nothing after the last function bit is required (R189). -/
def rc6Parse (T : List Int) : Except Err Rc6Code :=
  if ¬ rc6LeaderOk T then .error .protocolDecode
  else
    match rc6Read T 8 with
    | .error e => .error e
    | .ok start =>
      if ¬ start then .error .protocolDecode
      else
        match readBits (rc6Read T) 10 3 with
        | .error e => .error e
        | .ok mode =>
          match rc6ReadToggle T 16 with
          | .error e => .error e
          | .ok tg =>
            match readBits (rc6Read T) 20 8 with
            | .error e => .error e
            | .ok dev =>
              match readBits (rc6Read T) 36 8 with
              | .error e => .error e
              | .ok fn =>
                .ok { device := b2u dev, function := b2u fn, toggle := tg.toNat, mode := b2u mode }

/-- The whole signal is quantized before any bit is read (44_rc6.md R185; 90_conflicts.md C11). -/
def rc6Decode (tie : RoundTie) (d : List Rat) : Except Err Rc6Code :=
  match bitify tie (simplify d) uRc6 with
  | .error e => .error e
  | .ok T => rc6Parse T

/-- The registers DEC.RC6 writes (44_rc6.md R185). -/
def State.putRc6 (s : State) (c : Rc6Code) : State :=
  { s with
    pDevice := BitVec.ofNat 32 c.device
    pFunction := BitVec.ofNat 32 c.function
    pToggle := BitVec.ofNat 32 c.toggle
    pMode := BitVec.ofNat 32 c.mode }

/-- DEC.RC6 (44_rc6.md R185). -/
def execDecRc6 (s : State) : Result := .next (settle s (rc6Decode s.cfg.roundTie s.bufD) s.putRc6)

end Sys2Proof.Machine
end

