-- ==== Sys2Proof/Machine/Rca38.lean ====
section
/-! DEFINITION. The RCA-38 encoder ENC.RCA38 (45_rca38.md). There is no decoder (R204). -/

namespace Sys2Proof.Machine

/-- The 52 ticks of an RCA-38 frame; device and function are checked in frame order (45_rca38.md R200). -/
def rca38Frame (dev fn : Int) : Except Err (List Int) :=
  match field dev 4 rcaBit with
  | .error e => .error e
  | .ok device =>
    match field fn 8 rcaBit with
    | .error e => .error e
    | .ok function =>
      match field dev 4 rcaInv with
      | .error e => .error e
      | .ok deviceInv =>
        match field fn 8 rcaInv with
        | .error e => .error e
        | .ok functionInv => .ok ([8, -8] ++ device ++ function ++ deviceInv ++ functionInv ++ [1, -16])

/-- ENC.RCA38 (45_rca38.md R200). -/
def execEncRca38 (s : State) : Result :=
  .next (commitD s ((rca38Frame s.pDevice.toInt s.pFunction.toInt).map fun ticks => rescale ticks uRca38))

end Sys2Proof.Machine
end

