-- ==== Sys2Proof/Machine/System.lean ====
section
/-! DEFINITION. The system command RESET (48_system.md R270). -/

namespace Sys2Proof.Machine

/-- RESET (48_system.md R270). -/
def execReset (s : State) : Result := .next s.clear

end Sys2Proof.Machine
end

