-- ==== Sys2Proof/Machine/Dispatch.lean ====
section
/-! DEFINITION. The meaning of each command. -/

namespace Sys2Proof.Machine

/-- The operation a command selects, on the state as it stands (48_system.md R271). The FAULT state is tested before, by
the command cycle (Machine/Command.lean). -/
def exec (i : Instr) (s : State) : Host.Outcome State Fault Refusal :=
  match i with
  | .reset => Sys2Proof.Machine.execReset s
  | .u2b => Sys2Proof.Machine.execU2b s
  | .b2u => Sys2Proof.Machine.execB2u s
  | .bitify => Sys2Proof.Machine.execBitify s
  | .unbitify => Sys2Proof.Machine.execUnbitify s
  | .simplify => Sys2Proof.Machine.execSimplify s
  | .paired => Sys2Proof.Machine.execPaired s
  | .trimL => Sys2Proof.Machine.execTrimL s
  | .trimT => Sys2Proof.Machine.execTrimT s
  | .repeatSignal => Sys2Proof.Machine.execRepeatSignal s
  | .encNec1 => Sys2Proof.Machine.execEncNec1 s
  | .encNec2 => Sys2Proof.Machine.execEncNec2 s
  | .encNecx1 => Sys2Proof.Machine.execEncNecx1 s
  | .encNecx2 => Sys2Proof.Machine.execEncNecx2 s
  | .encNec1Y1 => Sys2Proof.Machine.execEncNec1Y1 s
  | .encNec2Y1 => Sys2Proof.Machine.execEncNec2Y1 s
  | .encNecx1Y1 => Sys2Proof.Machine.execEncNecx1Y1 s
  | .encNecx2Y1 => Sys2Proof.Machine.execEncNecx2Y1 s
  | .encNec1Y2 => Sys2Proof.Machine.execEncNec1Y2 s
  | .encNec2Y2 => Sys2Proof.Machine.execEncNec2Y2 s
  | .encNecx1Y2 => Sys2Proof.Machine.execEncNecx1Y2 s
  | .encNecx2Y2 => Sys2Proof.Machine.execEncNecx2Y2 s
  | .encNec1Y3 => Sys2Proof.Machine.execEncNec1Y3 s
  | .encNec2Y3 => Sys2Proof.Machine.execEncNec2Y3 s
  | .encNecx1Y3 => Sys2Proof.Machine.execEncNecx1Y3 s
  | .encNecx2Y3 => Sys2Proof.Machine.execEncNecx2Y3 s
  | .encNec1F16 => Sys2Proof.Machine.execEncNec1F16 s
  | .encNec2F16 => Sys2Proof.Machine.execEncNec2F16 s
  | .encNecx1F16 => Sys2Proof.Machine.execEncNecx1F16 s
  | .encNecx2F16 => Sys2Proof.Machine.execEncNecx2F16 s
  | .encRc5 => Sys2Proof.Machine.execEncRc5 s
  | .encRc6 => Sys2Proof.Machine.execEncRc6 s
  | .encRca38 => Sys2Proof.Machine.execEncRca38 s
  | .decRc5 => Sys2Proof.Machine.execDecRc5 s
  | .decRc6 => Sys2Proof.Machine.execDecRc6 s
  | .blEnc => Sys2Proof.Machine.execBlEnc s
  | .blDec => Sys2Proof.Machine.execBlDec s
  | .prontoEncDef => Sys2Proof.Machine.execProntoEncDef s
  | .prontoEncBase => Sys2Proof.Machine.execProntoEncBase s
  | .prontoEncFreq => Sys2Proof.Machine.execProntoEncFreq s
  | .prontoDec => Sys2Proof.Machine.execProntoDec s

end Sys2Proof.Machine
end

