-- ==== Sys2Proof/Machine/Command.lean ====
section
/-! DEFINITION. The command cycle (48_system.md R271) and the other actions of the host (20_memory.md R52). -/

namespace Sys2Proof.Machine

/-- The write of a word to `CMD` (48_system.md R271): RESET is accepted in every state, every other word is ignored in the
FAULT state (60_exceptions.md R305), and an illegal word raises IllegalCommand (R302). -/
def command (c : Word) (s : State) : Result :=
  if c = encode .reset then exec .reset s
  else if s.fault then .next s
  else
    match decode c with
    | .ok i => exec i s
    | .error _ => .next (s.raise .illegalCommand)

/-- A `SET` or `LOAD` is ignored in the FAULT state (20_memory.md R52; 60_exceptions.md R305). -/
def unlessFault (s : State) (r : Result) : Result := if s.fault then .next s else r

/-- A `LOAD` of `n` elements into a buffer of capacity `cap` (20_memory.md R52). -/
def load (b : Buf) (cap : Option Nat) (n : Nat) (loaded : State) : Result :=
  if fits cap n then .next loaded else .refused (.loadOverCapacity b)

/-- The actions that are not a host access forbidden while BUSY is 1 (20_memory.md R67): `GET STATUS`, and the hardware
reset, which is no host access. -/
def allowedWhileBusy : HostAction → Bool
  | .get .status => true
  | .hardwareReset => true
  | .setInt _ _ => false
  | .setRat _ _ => false
  | .loadD _ => false
  | .loadE _ => false
  | .loadB _ => false
  | .loadW _ => false
  | .loadS _ => false
  | .get _ => false
  | .read _ => false
  | .cmd _ => false

/-- The effect of a host action on a block that is not busy. -/
def performIdle (a : HostAction) (s : State) : Result :=
  match a with
  | .setInt r v => unlessFault s (.next (s.setInt r v))
  | .setRat r v => unlessFault s (.next (s.setRat r v))
  | .loadD xs => unlessFault s (load .bufD s.cfg.dcap xs.length (s.putD xs))
  | .loadE xs => unlessFault s (load .bufE s.cfg.ecap xs.length (s.putE xs))
  | .loadB xs => unlessFault s (load .bufB s.cfg.bcap xs.length (s.putB xs))
  | .loadW xs => unlessFault s (load .bufW s.cfg.wcap xs.length (s.putW xs))
  | .loadS xs => unlessFault s (load .bufS s.cfg.scap xs.length (s.putS xs))
  | .get r => .next (s.answer (s.getReg r))
  | .read b => .next (s.answer (s.readBuf b))
  | .cmd c => command c s
  | .hardwareReset => .next s.clear

/-- One action of the host (20_memory.md R52, R62, R67). -/
def perform (a : HostAction) (s : State) : Result :=
  if s.busy && !allowedWhileBusy a then .refused .hostAccessWhileBusy else performIdle a s

/-- Placing the write of a command word before every other pending action. -/
def placeCommand (s : State) (c : Word) : State := s.withPending (.cmd c :: s.pending)

end Sys2Proof.Machine
end

