-- ==== Sys2Proof/Machine/Step.lean ====
section
/-! DEFINITION. One step: the oldest pending action of the host is performed. The block fetches nothing (10_state.md R30),
so a program is the host's list of actions (48_system.md R272; log 1). -/

namespace Sys2Proof.Machine

/-- One step. With no action pending nothing happens: "nothing asynchronous ever changes its state" (60_exceptions.md
R320). -/
def step (s : State) : Result :=
  match s.pending with
  | [] => .next s
  | a :: rest => perform a (s.withPending rest)

/-- `s` with the `nbits` bits of the command word `w` as the host's next action, so that the next step executes it. -/
def State.withFetchWord (s : State) (nbits w : Nat) : State := placeCommand s (BitVec.ofNat 32 (w % 2 ^ nbits))

end Sys2Proof.Machine
end

