-- ==== Sys2Proof/Safety.lean ====
section
/-! DEFINITION. What every reachable state satisfies, in the terms the claims use: a legal `STATUS`, error registers that
belong to it, and buffers within their capacities. -/

namespace Sys2Proof.Machine

/-- `STATUS` as 10_state.md R31 allows it: reserved bits and BUSY read 0 (70_reset_and_hazards.md R350), ERR is 0 exactly
when FAULT is 0, and code 7 is never produced (60_exceptions.md R300). -/
abbrev StatusLegal (s : State) : Prop :=
  s.status = statusWord s.fault s.warn false s.err ∧ (s.fault = false ↔ s.err = 0) ∧ s.err ≠ 7

/-- The error registers (60_exceptions.md R304; 40_primitives.md R105, R108): after a TimingToleranceError a positive unit
and an error above 1/10, which is at most 1/2 because the tick count is the nearest integer; 0 otherwise. -/
abbrev ErrorsLegal (s : State) : Prop :=
  if s.err = 2 then 0 < s.eUnit ∧ 1 / 10 < s.eError ∧ s.eError ≤ 1 / 2
  else s.eValue = 0 ∧ s.eUnit = 0 ∧ s.eError = 0

/-- Every buffer is within its capacity (10_state.md R34; 60_exceptions.md R303). -/
abbrev BuffersFit (s : State) : Prop :=
  fits s.cfg.dcap s.bufD.length = true ∧ fits s.cfg.ecap s.bufE.length = true ∧ fits s.cfg.bcap s.bufB.length = true
    ∧ fits s.cfg.wcap s.bufW.length = true ∧ fits s.cfg.scap s.bufS.length = true

/-- The invariant of the machine. -/
abbrev Safe (s : State) : Prop := StatusLegal s ∧ ErrorsLegal s ∧ BuffersFit s

end Sys2Proof.Machine
end

