-- ==== Sys2Proof/Certificates/Slice0/Obligations.lean ====
section
/-! DEFINITION. The statements for the provers, and before them the words they are written in: the frames, streams and
codes as the spec's tables give them, apart from the way the model computes them. -/

namespace Sys2Proof.Claims

open Sys2Proof.Machine

/-- `n` elements fit a buffer of capacity `cap`, none being unbounded (10_state.md R34). -/
def room (cap : Option Nat) (n : Nat) : Bool := cap.all fun c => n ≤ c

/-- The state `s` with an error recorded (60_exceptions.md R304; bits of 10_state.md R31): FAULT 1, ERR `code`, WARN and
BUSY as they were, the three error registers, and nothing else changed. -/
def faulted (s : State) (code : Nat) (value unitLength unitError : Rat) : State :=
  { s with
    status := BitVec.ofNat 32
      (1 + 2 * (s.status.getLsbD 1).toNat + 4 * (s.status.getLsbD 2).toNat + 16 * code)
    eValue := value
    eUnit := unitLength
    eError := unitError }

/-- DomainError (code 1). -/
def domainError (s : State) : State := faulted s 1 0 0 0

/-- ProtocolDecodeError (code 3). -/
def decodeError (s : State) : State := faulted s 3 0 0 0

/-- FormatError (code 4). -/
def formatError (s : State) : State := faulted s 4 0 0 0

/-- IllegalCommand (code 5). -/
def illegalCommand (s : State) : State := faulted s 5 0 0 0

/-- Overflow (code 6). -/
def overflow (s : State) : State := faulted s 6 0 0 0

/-- The reset values of 10_state.md R38, the configuration and the host's own lists kept. -/
def afterReset (s : State) (rest : List HostAction) : State where
  pDevice := 0
  pSubdevice := BitVec.ofInt 32 (-1)
  pFunction := 0
  pToggle := 0
  pMode := 0
  pValue := 0
  pWidth := 0
  pCount := 0
  pBlrep := 0
  pBase := 0
  pN1 := 0
  pN2 := 0
  qUnit := 0
  qTrail := 0
  qFreq := 0
  status := 0
  eValue := 0
  eUnit := 0
  eError := 0
  bufD := []
  bufE := []
  bufB := []
  bufW := []
  bufS := []
  cfg := s.cfg
  pending := rest
  answers := s.answers

/-- The `w` low bits of `v`, most significant first, bit by bit (00_scope.md R10). -/
def msbBits (w : Nat) (v : Int) : List Bool :=
  (List.range w).map fun k => (v % 2 ^ w).toNat.testBit (w - 1 - k)

/-- The value of a bit string, each symbol weighted by its place, the first the most significant. -/
def bitsValue : List Bool → Nat
  | [] => 0
  | b :: bs => (if b then 2 ^ bs.length else 0) + bitsValue bs

/-- `v` is accepted by a field of `w` bits (40_primitives.md R101). -/
def fieldRange (v : Int) (w : Nat) : Prop := -2 ^ w ≤ v ∧ v ≤ 2 ^ w - 1

/-- The sign of a Duration as a tick. -/
def tickOf (d : Rat) : Rat := if 0 < d then 1 else if d < 0 then -1 else 0

/-- The distance of a Duration from `n` units, in microseconds. -/
def offBy (d : Rat) (n : Nat) (u : Rat) : Rat := |(|d| - (n : Rat) * u)|

/-- Tick counts that quantize a signal within 1/10 unit (40_primitives.md R105). -/
def Quantizes (u : Rat) (ds : List Rat) (ns : List Nat) : Prop :=
  List.Forall₂ (fun d n => offBy d n u ≤ u / 10) ds ns

/-- The first Duration of `ds` that is off every multiple of `u` by more than 1/10 unit is `d`, and `e` is its distance in
units from the nearest multiple (40_primitives.md R105, R108). -/
def FirstOffending (u : Rat) (ds : List Rat) (d e : Rat) : Prop :=
  ∃ (before after : List Rat) (ns : List Nat) (n : Nat), ds = before ++ d :: after ∧ Quantizes u before ns
    ∧ (∀ m : Nat, u / 10 < offBy d m u) ∧ (∀ m : Nat, offBy d n u ≤ offBy d m u) ∧ e = offBy d n u / u

/-- A normalized raw signal (41_normalizer.md R121). -/
def Normalized (xs : List Rat) : Prop :=
  (∀ x ∈ xs, x ≠ 0) ∧ (∀ x, xs.head? = some x → 0 < x) ∧ xs.IsChain (fun a b => a * b < 0)

/-- A run at place `k`: a mark for even `k`, a space for odd `k`, zeros inside it allowed (41_normalizer.md R120). -/
def IsRun (k : Nat) (run : List Rat) : Prop :=
  if k % 2 = 0 then (∀ x ∈ run, 0 ≤ x) ∧ (∃ x ∈ run, 0 < x) else (∀ x ∈ run, x ≤ 0) ∧ (∃ x ∈ run, x < 0)

/-- Mark and space pairs of a signal (41_normalizer.md R124): a mark takes the space right after it; a missing partner is
a 0, and after the last mark it is the trailing silence `ts`. A zero is a mark. -/
def pairUp (ts : Rat) : List Rat → List Rat
  | [] => []
  | [x] => if x < 0 then [0, x] else [x, ts]
  | x :: y :: rest =>
    if x < 0 then 0 :: x :: pairUp ts (y :: rest)
    else if y < 0 then x :: y :: pairUp ts rest
    else x :: 0 :: pairUp ts (y :: rest)

/-- A normalized signal with `ts` appended when it ends with a mark (41_normalizer.md R124 (a)). -/
def closeWith (ts : Rat) (xs : List Rat) : List Rat := if xs.length % 2 = 0 then xs else xs ++ [ts]

/-- Ticks of `u` microseconds each as Durations. -/
def inUnits (u : Rat) (ticks : List Int) : List Rat := ticks.map fun k => (k : Rat) * u

/-- The command of an NEC variant and suffix (42_nec.md R149). -/
def necInstr : NecVariant → NecSuffix → Instr
  | .nec1, .standard => .encNec1
  | .nec2, .standard => .encNec2
  | .necx1, .standard => .encNecx1
  | .necx2, .standard => .encNecx2
  | .nec1, .y1 => .encNec1Y1
  | .nec2, .y1 => .encNec2Y1
  | .necx1, .y1 => .encNecx1Y1
  | .necx2, .y1 => .encNecx2Y1
  | .nec1, .y2 => .encNec1Y2
  | .nec2, .y2 => .encNec2Y2
  | .necx1, .y2 => .encNecx1Y2
  | .necx2, .y2 => .encNecx2Y2
  | .nec1, .y3 => .encNec1Y3
  | .nec2, .y3 => .encNec2Y3
  | .necx1, .y3 => .encNecx1Y3
  | .necx2, .y3 => .encNecx2Y3
  | .nec1, .f16 => .encNec1F16
  | .nec2, .f16 => .encNec2F16
  | .necx1, .f16 => .encNecx1F16
  | .necx2, .f16 => .encNecx2F16

/-- The 16 ticks of one NEC byte, least significant bit first (30_encoding.md R78; 42_nec.md R141). -/
def necByteTicks (b : Nat) : List Int :=
  (List.range 8).flatMap fun k => if b.testBit k then [1, -3] else [1, -1]

/-- The byte a value in -256 to 255 is sent as (40_primitives.md R101). -/
def byteOf (v : Int) : Nat := (v % 256).toNat

/-- The second byte (42_nec.md R142). -/
def necSecondByte (dev sub : Int) : Nat := if 0 ≤ sub then byteOf sub else 255 - byteOf dev

/-- The fourth byte (42_nec.md R143). -/
def necFourthByte (suffix : NecSuffix) (fn : Int) : Nat :=
  match suffix with
  | .standard => 255 - byteOf fn
  | .y1 => byteOf fn ^^^ 0x7F
  | .y2 => byteOf fn ^^^ 0xFE
  | .y3 => byteOf fn ^^^ 0x7E
  | .f16 => byteOf (fn / 256)

/-- The leader mark of a variant in the configured table (42_nec.md R145). -/
def leaderUnits (t : NecLeader) : NecVariant → Nat
  | .nec1 => t.nec1
  | .nec2 => t.nec2
  | .necx1 => t.necx1
  | .necx2 => t.necx2

/-- The 68 ticks of an NEC frame (30_encoding.md R83). -/
def necTicks (t : NecLeader) (v : NecVariant) (x : NecSuffix) (dev sub fn : Int) : List Int :=
  [(leaderUnits t v : Int), -8] ++ necByteTicks (byteOf dev) ++ necByteTicks (necSecondByte dev sub)
    ++ necByteTicks (byteOf fn) ++ necByteTicks (necFourthByte x fn) ++ [1, -3]

/-- The operands an NEC encoder accepts (42_nec.md R144): the first two bytes, and the high byte for F16. -/
def NecAccepts (x : NecSuffix) (dev sub fn : Int) : Prop :=
  fieldRange dev 8 ∧ sub ≤ 255 ∧ (x = .f16 → -65536 ≤ fn ∧ fn ≤ 65535)

/-- The 29 ticks of an RC5 frame (30_encoding.md R84). -/
def rc5Ticks (dev fn tg : Int) : List Int :=
  (([true, decide (fn < 64)] ++ msbBits 1 tg ++ msbBits 5 dev ++ msbBits 6 fn).flatMap
    fun b => if b then [-1, 1] else [1, -1]) ++ [-100]

/-- The operands ENC.RC5 accepts (43_rc5.md R160). -/
def Rc5Accepts (dev tg : Int) : Prop := fieldRange tg 1 ∧ fieldRange dev 5

/-- Tick `i` of a quantized capture: -1 past its end (43_rc5.md R166). -/
def tickAt (T : List Int) (i : Nat) : Int := T.getD i (-1)

/-- An RC5 frame from the start-bit mark on (43_rc5.md R167, R168): the mark, then thirteen pairs of opposite ticks (field
bit, toggle, five device bits, six function bits; log 9 on the count in R171). -/
def Rc5Shape (T : List Int) : Prop :=
  tickAt T 0 = 1 ∧ ∀ j < 13, tickAt T (1 + 2 * j) ≠ tickAt T (2 + 2 * j)

/-- Bits `first` to `first + n - 1` after the start bit: 1 is space then mark (30_encoding.md R79). -/
def rc5Field (T : List Int) (first n : Nat) : Nat :=
  bitsValue ((List.range n).map fun j => decide (tickAt T (1 + 2 * (first + j)) = -1))

/-- The function of an RC5 frame: its six low bits, and 64 more when the field bit is 0 (43_rc5.md R162, R165). -/
def rc5FunctionOf (T : List Int) : Nat := rc5Field T 7 6 + (if rc5Field T 0 1 = 0 then 64 else 0)

/-- The 45 ticks of an RC6 frame (30_encoding.md R85). -/
def rc6Ticks (dev fn tg mode : Int) : List Int :=
  [6, -2] ++ (([true] ++ msbBits 3 mode).flatMap fun b => if b then [1, -1] else [-1, 1])
    ++ ((msbBits 1 tg).flatMap fun b => if b then [2, -2] else [-2, 2])
    ++ ((msbBits 8 dev ++ msbBits 8 fn).flatMap fun b => if b then [1, -1] else [-1, 1]) ++ [-6]

/-- The operands ENC.RC6 accepts (44_rc6.md R180). -/
def Rc6Accepts (dev fn tg mode : Int) : Prop :=
  fieldRange mode 3 ∧ fieldRange tg 1 ∧ fieldRange dev 8 ∧ fieldRange fn 8

/-- An RC6 frame (44_rc6.md R185 to R188): the leader, the start bit 1, three mode pairs, one of the two toggle
templates, sixteen pairs. -/
def Rc6Shape (T : List Int) : Prop :=
  (∀ k < 6, tickAt T k = 1) ∧ (∀ k < 2, tickAt T (6 + k) = -1) ∧ tickAt T 8 = 1 ∧ tickAt T 9 = -1
    ∧ (∀ j < 3, tickAt T (10 + 2 * j) ≠ tickAt T (11 + 2 * j))
    ∧ (tickAt T 16 = tickAt T 17 ∧ tickAt T 18 = tickAt T 19 ∧ tickAt T 16 ≠ tickAt T 18)
    ∧ (∀ j < 16, tickAt T (20 + 2 * j) ≠ tickAt T (21 + 2 * j))

/-- The field of `n` bits whose first pair begins at tick `i`: 1 is mark then space (30_encoding.md R80). -/
def rc6Field (T : List Int) (i n : Nat) : Nat :=
  bitsValue ((List.range n).map fun j => decide (tickAt T (i + 2 * j) = 1))

/-- The 52 ticks of an RCA-38 frame (30_encoding.md R86). -/
def rca38Ticks (dev fn : Int) : List Int :=
  let plain := msbBits 4 dev ++ msbBits 8 fn
  [8, -8] ++ (plain.flatMap fun b => if b then [1, -4] else [1, -2])
    ++ (plain.flatMap fun b => if b then [1, -2] else [1, -4]) ++ [1, -16]

/-- The operands ENC.RCA38 accepts (45_rca38.md R200). -/
def Rca38Accepts (dev fn : Int) : Prop := fieldRange dev 4 ∧ fieldRange fn 8

/-- The payload entry of a magnitude (30_encoding.md R88). -/
def blEntryBytes (m : Nat) : List Byte :=
  if m ≤ 255 then [BitVec.ofNat 8 m] else [0#8, BitVec.ofNat 8 (m / 256), BitVec.ofNat 8 (m % 256)]

/-- A Broadlink stream (30_encoding.md R87) whose bytes after the payload are `tail`. -/
def blBytes (rep : Byte) (payload tail : List Byte) : List Byte :=
  [0x26#8, rep, BitVec.ofNat 8 (payload.length % 256), BitVec.ofNat 8 (payload.length / 256)] ++ payload ++ tail

/-- The padding of a payload of `L` bytes (46_broadlink.md R216). -/
def blPadding (L : Nat) : List Byte := List.replicate ((16 - (L + 8) % 16) % 16) 0#8

/-- The scaled magnitudes BL.ENC sends for a signal (46_broadlink.md R210, R213). -/
def blMagnitudesOf (tie : RoundTie) (d : List Rat) : List Nat :=
  (closeWith (-101502) (simplify d)).map fun x => (roundRat tie (|x| * 269 / 8192)).toNat

/-- The stream BL.ENC gives for a signal. -/
def blStreamOf (tie : RoundTie) (rep : Int) (d : List Rat) : List Byte :=
  let payload := (blMagnitudesOf tie d).flatMap blEntryBytes
  blBytes (BitVec.ofInt 8 rep) payload (blPadding payload.length)

/-- What BL.ENC accepts (46_broadlink.md R212, R215, R217). -/
def BlAccepts (tie : RoundTie) (rep : Int) (d : List Rat) : Prop :=
  fieldRange rep 8 ∧ (∀ m ∈ blMagnitudesOf tie d, m ≤ 65535)
    ∧ ((blMagnitudesOf tie d).flatMap blEntryBytes).length ≤ 65535

/-- A payload entry as a decoder reads it: a magnitude and whether it is in the escape form (30_encoding.md R88). -/
def entryForm (m : Nat) (escaped : Bool) : List Byte :=
  if escaped then [0#8, BitVec.ofNat 8 (m / 256), BitVec.ofNat 8 (m % 256)] else [BitVec.ofNat 8 m]

/-- The payload of a list of entries. -/
def payloadOf (es : List (Nat × Bool)) : List Byte := es.flatMap fun p => entryForm p.1 p.2

/-- Entries a payload can hold: any 16-bit magnitude escaped, 1 to 255 in one byte. -/
def EntriesOk (es : List (Nat × Bool)) : Prop :=
  ∀ p ∈ es, p.1 ≤ 65535 ∧ (p.2 = false → 1 ≤ p.1 ∧ p.1 ≤ 255)

/-- The sign of the entry or count at place `k`: positive when even, negative when odd (46_broadlink.md R224). -/
def placeSign (k : Nat) : Rat := if k % 2 = 0 then 1 else -1

/-- The Durations of a list of magnitudes (46_broadlink.md R220). -/
def blSignal (tie : RoundTie) (ms : List Nat) : List Rat :=
  ms.mapIdx fun k m => placeSign k * (roundRat tie ((m : Rat) * 8192 / 269) : Rat)

/-- What BL.DEC leaves for these entries and these bytes after the payload: WARN, bit 1, is set when one is not zero. -/
def blDecoded (s : State) (rep : Byte) (ms : List Nat) (tail : List Byte) : State :=
  { s with
    bufD := blSignal s.cfg.roundTie ms
    pBlrep := BitVec.ofNat 32 rep.toNat
    status := if tail.all (· = 0#8) then s.status else s.status ||| 2#32 }

/-- The clock of a Pronto encoder: word 1 and the frequency of the counts (47_pronto.md R240, R242). -/
def ProntoClockOf (i : Instr) (s : State) (base : Nat) (freq : Rat) : Prop :=
  (i = .prontoEncDef ∧ base = 103 ∧ freq = 1 / 25)
    ∨ (i = .prontoEncBase ∧ s.pBase.toInt = (base : Int) ∧ 1 ≤ base ∧ base ≤ 65535
        ∧ freq = 500000 / ((base : Rat) * 120623))
    ∨ (i = .prontoEncFreq ∧ freq = s.qFreq ∧ 0 < freq ∧ 1 ≤ base ∧ base ≤ 65535
        ∧ (base : Int) = ⌊500000 / (freq * 120623)⌋)

/-- The two sequences as PRONTO.ENC pairs them (47_pronto.md R243). -/
def prontoPairs (d : List Rat) : List Rat := closeWith 0 (simplify d)

/-- The counts of both sequences, truncated (47_pronto.md R240, R244). -/
def prontoCountsOf (freq : Rat) (d e : List Rat) : List Nat :=
  (prontoPairs d ++ prontoPairs e).map fun x => ⌊|x| * freq⌋.toNat

/-- The words of a Pronto code (30_encoding.md R90). -/
def prontoWords (base : Nat) (freq : Rat) (d e : List Rat) : List Half :=
  [0, base, (prontoPairs d).length / 2, (prontoPairs e).length / 2].map (BitVec.ofNat 16)
    ++ (prontoCountsOf freq d e).map (BitVec.ofNat 16)

/-- Everything fits its word (47_pronto.md R245). -/
def ProntoFits (freq : Rat) (d e : List Rat) : Prop :=
  (prontoPairs d).length / 2 ≤ 65535 ∧ (prontoPairs e).length / 2 ≤ 65535 ∧ ∀ c ∈ prontoCountsOf freq d e, c ≤ 65535

/-- What PRONTO.DEC leaves for this header and these counts (47_pronto.md R250). -/
def prontoDecoded (s : State) (base n1 n2 : Half) (counts : List Half) : State :=
  { s with
    bufD := counts.mapIdx fun k c =>
      placeSign k * roundTenth s.cfg.roundTie ((c.toNat : Rat) * (base.toNat : Rat) * 120623 / 500000)
    pBase := BitVec.ofNat 32 base.toNat
    pN1 := BitVec.ofNat 32 n1.toNat
    pN2 := BitVec.ofNat 32 n2.toNat
    qFreq := 500000 / ((base.toNat : Rat) * 120623) }

end Sys2Proof.Claims

open Sys2Proof Sys2Proof.Machine Sys2Proof.Claims

/-! ### The machine: reset, the command cycle, the FAULT state, the host -/

/-- 10_state.md R38: the table of reset values. -/
def Obligations.ResetStateHoldsTheTableOfResetValues : Prop :=
  let r := State.reset
  [r.pDevice, r.pFunction, r.pToggle, r.pMode, r.pValue, r.pWidth, r.pCount, r.pBlrep, r.pBase, r.pN1, r.pN2].map
      (·.toInt) = List.replicate 11 0
    ∧ r.pSubdevice.toInt = -1
    ∧ [r.qUnit, r.qTrail, r.qFreq, r.eValue, r.eUnit, r.eError] = List.replicate 6 0
    ∧ r.status = 0#32
    ∧ r.bufD = [] ∧ r.bufE = [] ∧ r.bufB = [] ∧ r.bufW = [] ∧ r.bufS = []

/-- 48_system.md R270, 70_reset_and_hazards.md R330: RESET and the hardware reset put every register and buffer to its reset
value, in IDLE and in FAULT alike, and leave the configuration alone. That the host's two lists are kept is the model's choice
(log 1), and so is that the hardware reset works while BUSY is 1 (log 4). -/
def Obligations.ResetIsAcceptedInEveryState : Prop :=
  (∀ s : State, exec .reset s = .next (afterReset s s.pending))
    ∧ (∀ (s : State) (rest : List HostAction), s.busy = false → s.pending = .cmd 0x00000001#32 :: rest →
        step s = .next (afterReset s rest))
    ∧ (∀ (s : State) (rest : List HostAction), s.pending = .hardwareReset :: rest → step s = .next (afterReset s rest))

/-- 48_system.md R271: one write of a word to `CMD` is one step. RESET runs in every state; in FAULT every other word is
ignored; a legal word runs the command it decodes to, with exactly the write removed from the host's list; any other word
raises IllegalCommand. -/
def Obligations.StepRunsTheDecodedCommand : Prop :=
  ∀ (s : State) (c : Word) (rest : List HostAction), s.busy = false → s.pending = .cmd c :: rest →
    (c = 0x00000001#32 → step s = exec .reset { s with pending := rest })
      ∧ (c ≠ 0x00000001#32 → s.fault = true → step s = .next { s with pending := rest })
      ∧ (s.fault = false → ∀ i, decode c = .ok i → step s = exec i { s with pending := rest })
      ∧ (s.fault = false → legalWord c = false → step s = .next (illegalCommand { s with pending := rest }))

/-- 30_encoding.md R70 to R73, R76: a word decodes to a command exactly when it is that command's encoding, so decode and
encode are inverse of each other; and the words that decode are exactly those the field rules call legal. -/
def Obligations.DecodeAndEncodeAgreeOnExactlyTheLegalWords : Prop :=
  (∀ (w : Word) (i : Instr), decode w = .ok i ↔ w = encode i)
    ∧ (∀ w : Word, (∃ i, decode w = .ok i) ↔ legalWord w = true)

/-- Command words written out from 30_encoding.md R71 to R73, one of each family, decode to their commands. -/
def Obligations.WrittenOutWordsDecode : Prop :=
  [0x00000001#32, 0x00000012#32, 0x00000020#32, 0x00000122#32, 0x00000F30#32, 0x00000031#32, 0x0000003A#32,
      0x00000033#32, 0x00000041#32, 0x00000248#32].map (fun w => (decode w).toOption)
    = [some .reset, some .bitify, some .simplify, some .trimT, some .encNecx2Y3, some .encRc5, some .decRc6,
        some .encRca38, some .blDec, some .prontoEncFreq]

/-- 42_nec.md R149: the twenty NEC command words. -/
def Obligations.TwentyNecWords : Prop :=
  [NecSuffix.standard, .y1, .y2, .y3, .f16].map
      (fun x => [NecVariant.nec1, .nec2, .necx1, .necx2].map fun v => encode (necInstr v x))
    = [[0x00000030#32, 0x00000130#32, 0x00000230#32, 0x00000330#32],
       [0x00000430#32, 0x00000530#32, 0x00000630#32, 0x00000730#32],
       [0x00000830#32, 0x00000930#32, 0x00000A30#32, 0x00000B30#32],
       [0x00000C30#32, 0x00000D30#32, 0x00000E30#32, 0x00000F30#32],
       [0x00001030#32, 0x00001130#32, 0x00001230#32, 0x00001330#32]]

/-- The invariant `Safe` holds right after reset. -/
def Obligations.ResetStateIsSafe : Prop := Safe State.reset

/-- Every step keeps `Safe`: `STATUS` keeps its reserved bits and BUSY at 0 and a code exactly in FAULT, the error
registers belong to the error recorded, and every buffer stays within its capacity. -/
def Obligations.EveryStepKeepsSafe : Prop :=
  ∀ s t : State, Safe s → step s = .next t → Safe t

/-- 10_state.md R37: no operation and no host action changes the configuration. -/
def Obligations.NoStepChangesTheConfiguration : Prop :=
  ∀ s t : State, step s = .next t → t.cfg = s.cfg

/-- 60_exceptions.md R304: a command that takes an idle block into FAULT commits nothing: the state after it is the state
before it but for STATUS and the three error registers, which are 0 for every kind but TimingToleranceError. -/
def Obligations.AnErrorCommitsNothing : Prop :=
  ∀ (i : Instr) (s t : State), s.fault = false → exec i s = .next t → t.fault = true →
    ∃ (code : Nat) (v u e : Rat), 1 ≤ code ∧ code ≤ 6 ∧ (code ≠ 2 → v = 0 ∧ u = 0 ∧ e = 0)
      ∧ t = faulted s code v u e

/-- 60_exceptions.md R306: only RESET and the hardware reset lead out of FAULT, and they leave the reset values. -/
def Obligations.OnlyAResetLeavesTheFaultState : Prop :=
  ∀ s t : State, s.fault = true → step s = .next t → t.fault = false →
    ∃ rest, (s.pending = .cmd 0x00000001#32 :: rest ∨ s.pending = .hardwareReset :: rest) ∧ t = afterReset s rest

/-- 60_exceptions.md R305: in FAULT every command but RESET, every SET and every LOAD is ignored; GET and READ work. -/
def Obligations.FaultStateIgnoresCommandsAndHostWrites : Prop :=
  ∀ (s : State) (a : HostAction) (rest : List HostAction), s.busy = false → s.fault = true → s.pending = a :: rest →
    (∀ c, a = .cmd c → c ≠ 0x00000001#32 → step s = .next { s with pending := rest })
      ∧ (∀ r v, a = .setInt r v → step s = .next { s with pending := rest })
      ∧ (∀ r v, a = .setRat r v → step s = .next { s with pending := rest })
      ∧ (∀ xs, a = .loadD xs ∨ a = .loadE xs → step s = .next { s with pending := rest })
      ∧ (∀ xs, a = .loadB xs → step s = .next { s with pending := rest })
      ∧ (∀ xs, a = .loadW xs → step s = .next { s with pending := rest })
      ∧ (∀ xs, a = .loadS xs → step s = .next { s with pending := rest })
      ∧ (∀ r, a = .get r →
          step s = .next { s with pending := rest, answers := s.answers ++ [s.getReg r] })
      ∧ (∀ b, a = .read b →
          step s = .next { s with pending := rest, answers := s.answers ++ [s.readBuf b] })

/-- 20_memory.md R52, R53; 10_state.md R33, R34: GET and READ hand over the named register, length or buffer (CMD reads 0)
and change nothing in the block. -/
def Obligations.HostReadsAnswerAndChangeNothing : Prop :=
  ∀ (s : State) (rest : List HostAction), s.busy = false →
    (∀ p ∈ [(Reg.int .device, Answer.word s.pDevice), (.int .subdevice, .word s.pSubdevice),
        (.int .function, .word s.pFunction), (.int .toggle, .word s.pToggle), (.int .mode, .word s.pMode),
        (.int .value, .word s.pValue), (.int .width, .word s.pWidth), (.int .count, .word s.pCount),
        (.int .blrep, .word s.pBlrep), (.int .base, .word s.pBase), (.int .n1, .word s.pN1), (.int .n2, .word s.pN2),
        (.rat .unit, .rat s.qUnit), (.rat .trail, .rat s.qTrail), (.rat .freq, .rat s.qFreq),
        (.status, .word s.status), (.eValue, .rat s.eValue), (.eUnit, .rat s.eUnit), (.eError, .rat s.eError),
        (.cmd, .word 0#32), (.length .bufD, .length s.bufD.length), (.length .bufE, .length s.bufE.length),
        (.length .bufB, .length s.bufB.length), (.length .bufW, .length s.bufW.length),
        (.length .bufS, .length s.bufS.length)],
      s.pending = .get p.1 :: rest → step s = .next { s with pending := rest, answers := s.answers ++ [p.2] })
    ∧ (∀ p ∈ [(Buf.bufD, Answer.signal s.bufD), (.bufE, .signal s.bufE), (.bufB, .bytes s.bufB),
        (.bufW, .halves s.bufW), (.bufS, .bits s.bufS)],
      s.pending = .read p.1 :: rest → step s = .next { s with pending := rest, answers := s.answers ++ [p.2] })

/-- 20_memory.md R52, 10_state.md R21, R27: an idle SET writes the register it names and no other: every register and
buffer length but that one reads as before, and so does every buffer. -/
def Obligations.HostSetWritesOneRegister : Prop :=
  ∀ (s : State) (rest : List HostAction), s.busy = false → s.fault = false →
    (∀ r v, s.pending = .setInt r v :: rest → ∃ t, step s = .next t ∧ t.getReg (.int r) = .word v
      ∧ (∀ q, q ≠ .int r → t.getReg q = s.getReg q) ∧ (∀ b, t.readBuf b = s.readBuf b)
      ∧ t.cfg = s.cfg ∧ t.pending = rest ∧ t.answers = s.answers)
    ∧ (∀ r v, s.pending = .setRat r v :: rest → ∃ t, step s = .next t ∧ t.getReg (.rat r) = .rat v
      ∧ (∀ q, q ≠ .rat r → t.getReg q = s.getReg q) ∧ (∀ b, t.readBuf b = s.readBuf b)
      ∧ t.cfg = s.cfg ∧ t.pending = rest ∧ t.answers = s.answers)

/-- 20_memory.md R52: an idle LOAD within the capacity replaces the whole buffer and nothing else. -/
def Obligations.HostLoadReplacesTheWholeBuffer : Prop :=
  ∀ (s : State) (rest : List HostAction), s.busy = false → s.fault = false →
    (∀ xs, s.pending = .loadD xs :: rest → room s.cfg.dcap xs.length = true →
      step s = .next { s with bufD := xs, pending := rest })
    ∧ (∀ xs, s.pending = .loadE xs :: rest → room s.cfg.ecap xs.length = true →
      step s = .next { s with bufE := xs, pending := rest })
    ∧ (∀ xs, s.pending = .loadB xs :: rest → room s.cfg.bcap xs.length = true →
      step s = .next { s with bufB := xs, pending := rest })
    ∧ (∀ xs, s.pending = .loadW xs :: rest → room s.cfg.wcap xs.length = true →
      step s = .next { s with bufW := xs, pending := rest })
    ∧ (∀ xs, s.pending = .loadS xs :: rest → room s.cfg.scap xs.length = true →
      step s = .next { s with bufS := xs, pending := rest })

/-- The model's choice (log 1), from 60_exceptions.md R320: with no host action pending a step changes nothing. -/
def Obligations.WithNothingPendingNothingChanges : Prop :=
  ∀ s : State, s.pending = [] → step s = .next s

/-- The model's choice (log 4), from 20_memory.md R52, R67 and 93_implementation_defined.md U2, U3: the host actions the spec
puts outside the model are refused by name: an access while BUSY is 1 other than `GET STATUS`, and an idle LOAD of any of the
five buffers beyond its capacity. -/
def Obligations.ActionsOutsideTheModelAreRefused : Prop :=
  (∀ (s : State) (a : HostAction) (rest : List HostAction), s.busy = true → s.pending = a :: rest →
      a ≠ .get .status → a ≠ .hardwareReset → step s = .refused .hostAccessWhileBusy)
    ∧ (∀ (s : State) (rest : List HostAction), s.busy = false → s.fault = false →
      (∀ xs, s.pending = .loadD xs :: rest → room s.cfg.dcap xs.length = false →
        step s = .refused (.loadOverCapacity .bufD))
      ∧ (∀ xs, s.pending = .loadE xs :: rest → room s.cfg.ecap xs.length = false →
        step s = .refused (.loadOverCapacity .bufE))
      ∧ (∀ xs, s.pending = .loadB xs :: rest → room s.cfg.bcap xs.length = false →
        step s = .refused (.loadOverCapacity .bufB))
      ∧ (∀ xs, s.pending = .loadW xs :: rest → room s.cfg.wcap xs.length = false →
        step s = .refused (.loadOverCapacity .bufW))
      ∧ (∀ xs, s.pending = .loadS xs :: rest → room s.cfg.scap xs.length = false →
        step s = .refused (.loadOverCapacity .bufS)))

/-- 60_exceptions.md R300, R304: the entry into FAULT that every operation shares, for each of the six kinds: its code, the
error registers, WARN kept, and nothing else changed. -/
def Obligations.ErrorKindsHaveTheirCodes : Prop :=
  ∀ (s : State) (d u e : Rat),
    s.raise .domain = faulted s 1 0 0 0 ∧ s.raise (.timing d u e) = faulted s 2 d u e
      ∧ s.raise .protocolDecode = faulted s 3 0 0 0 ∧ s.raise .format = faulted s 4 0 0 0
      ∧ s.raise .illegalCommand = faulted s 5 0 0 0 ∧ s.raise .overflow = faulted s 6 0 0 0

/-- 60_exceptions.md R310: WARN is sticky: only a reset clears it, and only BL.DEC sets it, completing normally. -/
def Obligations.OnlyBlDecSetsAndOnlyResetClearsTheWarning : Prop :=
  (∀ s t : State, step s = .next t → s.warn = true → t.warn = false →
      ∃ rest, s.pending = .cmd 0x00000001#32 :: rest ∨ s.pending = .hardwareReset :: rest)
    ∧ (∀ s t : State, step s = .next t → s.warn = false → t.warn = true →
      t.fault = false ∧ ∃ rest, s.pending = .cmd 0x00000041#32 :: rest)

/-- 60_exceptions.md R303: with unbounded capacities no command raises Overflow. -/
def Obligations.OverflowNeedsAFiniteCapacity : Prop :=
  ∀ (i : Instr) (s t : State),
    s.cfg.dcap = none → s.cfg.ecap = none → s.cfg.bcap = none → s.cfg.wcap = none → s.cfg.scap = none →
    s.err ≠ 6 → exec i s = .next t → t.err ≠ 6

/-! ### Bit and timing primitives -/

/-- 00_scope.md R8: `round` is a nearest integer, an exact half goes to the even one (or away from zero under the OPEN
alternative); `round1` rounds tenths; `int` is the integer part of a non-negative number. -/
def Obligations.RoundingIsToTheNearestWithTheConfiguredTie : Prop :=
  (∀ (tie : RoundTie) (x : Rat) (n : Int), |x - (roundRat tie x : Rat)| ≤ |x - (n : Rat)|)
    ∧ (∀ (x : Rat) (n : Int), |x - (n : Rat)| = 1 / 2 → roundRat .halfEven x % 2 = 0)
    ∧ (∀ (x : Rat) (n : Int), |x - (n : Rat)| = 1 / 2 → |x| ≤ |(roundRat .halfAway x : Rat)|)
    ∧ (∀ (tie : RoundTie) (x : Rat), roundTenth tie x * 10 = (roundRat tie (10 * x) : Rat))
    ∧ (∀ x : Rat, 0 ≤ x → (truncRat x : Rat) ≤ x ∧ x < (truncRat x : Rat) + 1)

/-- 40_primitives.md R101: U2B writes the `P_WIDTH` bits of `P_VALUE`, most significant first, for a width of 0 to 31 and a
value of -2^w to 2^w - 1; outside it raises DomainError; a string longer than `SCAP` raises Overflow. -/
def Obligations.U2bWritesTheBitsOfTheValue : Prop :=
  ∀ s : State,
    (∀ w : Nat, s.pWidth.toInt = (w : Int) → w ≤ 31 → fieldRange s.pValue.toInt w →
      (room s.cfg.scap w = true → exec .u2b s = .next { s with bufS := msbBits w s.pValue.toInt })
        ∧ (room s.cfg.scap w = false → exec .u2b s = .next (overflow s)))
    ∧ ((s.pWidth.toInt < 0 ∨ 31 < s.pWidth.toInt ∨ ¬ fieldRange s.pValue.toInt s.pWidth.toInt.toNat) →
      exec .u2b s = .next (domainError s))

/-- 40_primitives.md R103: B2U writes the value of the bit string in `S`, first symbol most significant, for up to 31
symbols, and raises DomainError for more. -/
def Obligations.B2uReadsTheValueOfTheString : Prop :=
  ∀ s : State,
    (s.bufS.length ≤ 31 →
      exec .b2u s = .next { s with pValue := BitVec.ofNat 32 (bitsValue s.bufS) } ∧ bitsValue s.bufS < 2 ^ 31)
    ∧ (31 < s.bufS.length → exec .b2u s = .next (domainError s))

/-- 40_primitives.md R104: the three inverse laws of U2B and B2U. -/
def Obligations.U2bAndB2uAreInverse : Prop :=
  (∀ w : Nat, w ≤ 31 → ∀ v : Int, 0 ≤ v → v ≤ 2 ^ w - 1 → ∃ bits, u2b v w = .ok bits ∧ (b2u bits : Int) = v)
    ∧ (∀ w : Nat, w ≤ 31 → ∀ v : Int, -2 ^ w ≤ v → v ≤ -1 →
      ∃ bits, u2b v w = .ok bits ∧ (b2u bits : Int) = v + 2 ^ w)
    ∧ (∀ bits : List Bool, bits.length ≤ 31 → u2b (b2u bits : Int) (bits.length : Int) = .ok bits)

/-- 40_primitives.md R105, R107: BITIFY replaces each Duration by its count of ticks of its sign when every Duration is
within 1/10 unit of a multiple of the unit; the first one that is not raises TimingToleranceError with the Duration, the unit
and the error in units; a unit of 0 or less raises DomainError; a result longer than `DCAP` raises Overflow. -/
def Obligations.BitifyQuantizesTheSignal : Prop :=
  ∀ s : State,
    (s.qUnit ≤ 0 → exec .bitify s = .next (domainError s))
    ∧ (∀ ns : List Nat, 0 < s.qUnit → Quantizes s.qUnit s.bufD ns →
      (room s.cfg.dcap ns.sum = true → exec .bitify s = .next
          { s with bufD := (List.zipWith (fun d n => List.replicate n (tickOf d)) s.bufD ns).flatten })
        ∧ (room s.cfg.dcap ns.sum = false → exec .bitify s = .next (overflow s)))
    ∧ (∀ d e : Rat, 0 < s.qUnit → FirstOffending s.qUnit s.bufD d e →
      exec .bitify s = .next (faulted s 2 d s.qUnit e))

/-- 40_primitives.md R108: a TimingToleranceError of BITIFY, DEC.RC5 or DEC.RC6 records the first offending Duration of the
signal it quantizes, the unit and the computed error. -/
def Obligations.TimingErrorRecordsDurationUnitAndError : Prop :=
  ∀ (s : State) (d e : Rat),
    (0 < s.qUnit → FirstOffending s.qUnit s.bufD d e → exec .bitify s = .next (faulted s 2 d s.qUnit e))
    ∧ (FirstOffending 889 (simplify s.bufD) d e → exec .decRc5 s = .next (faulted s 2 d 889 e))
    ∧ (FirstOffending 444 (simplify s.bufD) d e → exec .decRc6 s = .next (faulted s 2 d 444 e))

/-- 40_primitives.md R109: a Duration an exact half of a unit off always raises, with an error of 1/2 whichever neighbour
`round` picks, and nothing the quantizer answers depends on the tie rule. -/
def Obligations.QuantizerDoesNotDependOnTheTieRule : Prop :=
  (∀ (tie : RoundTie) (u d : Rat) (n : Nat) (ds : List Rat), 0 < u → |d| / u = (n : Rat) + 1 / 2 →
      bitify tie (d :: ds) u = .error (.timing d u (1 / 2)))
    ∧ (∀ (ds : List Rat) (u : Rat), bitify .halfEven ds u = bitify .halfAway ds u)

/-- 40_primitives.md R110: UNBITIFY multiplies every element by the unit and never fails. -/
def Obligations.UnbitifyScalesEveryElement : Prop :=
  ∀ s : State, exec .unbitify s = .next { s with bufD := s.bufD.map fun t => t * s.qUnit }

/-- 40_primitives.md R111: quantizing rescaled ticks gives each tick count back as a run of unit ticks, and the unit-by-unit
expansion of a quantized signal simplifies to the simplified quantized signal. -/
def Obligations.BitifyInvertsUnbitifyUnitByUnit : Prop :=
  (∀ (tie : RoundTie) (u : Rat) (ts : List Int), 0 < u →
      bitify tie (inUnits u ts) u = .ok (ts.flatMap fun k => List.replicate k.natAbs k.sign))
    ∧ (∀ (tie : RoundTie) (u : Rat) (ds : List Rat) (ns : List Nat) (ts : List Int), 0 < u → Quantizes u ds ns →
      bitify tie ds u = .ok ts →
      simplify (inUnits u ts) = simplify (List.zipWith (fun d n => tickOf d * ((n : Rat) * u)) ds ns))

/-! ### Normalizer -/

/-- 41_normalizer.md R120: after a leading part without a mark, each run of marks and each run of spaces, zeros inside it
ignored, becomes one Duration, its sum, in order. -/
def Obligations.SimplifySumsEachRun : Prop :=
  ∀ (s : State) (lead : List Rat) (runs : List (List Rat)), s.bufD = lead ++ runs.flatten → (∀ x ∈ lead, x ≤ 0) →
    (∀ k run, runs[k]? = some run → IsRun k run) →
    exec .simplify s = .next { s with bufD := runs.map List.sum }

/-- 41_normalizer.md R121, R122: SIMPLIFY completes in every state and leaves a normalized signal; it is idempotent, and it
changes nothing exactly when the signal is normalized already. -/
def Obligations.SimplifyNormalizesAndIsIdempotent : Prop :=
  (∀ s : State, ∃ xs, exec .simplify s = .next { s with bufD := xs } ∧ Normalized xs
      ∧ exec .simplify { s with bufD := xs } = .next { s with bufD := xs })
    ∧ (∀ s : State, exec .simplify s = .next s ↔ Normalized s.bufD)

/-- 41_normalizer.md R124, R125: PAIRED writes the mark and space pairs of the signal, the trailing silence as it stands in
`Q_TRAIL`; a result longer than `DCAP` raises Overflow. -/
def Obligations.PairedWritesMarkSpacePairs : Prop :=
  ∀ s : State,
    (room s.cfg.dcap (pairUp s.qTrail s.bufD).length = true →
      exec .paired s = .next { s with bufD := pairUp s.qTrail s.bufD })
    ∧ (room s.cfg.dcap (pairUp s.qTrail s.bufD).length = false → exec .paired s = .next (overflow s))
    ∧ (Normalized s.bufD → room s.cfg.dcap (s.bufD.length + 1) = true →
      exec .paired s = .next { s with bufD := closeWith s.qTrail s.bufD })

/-- 41_normalizer.md R126: with a trailing silence of 0 or less the result of `paired` has even length, no negative element
at an even index and no positive one at an odd index. -/
def Obligations.PairedResultAlternates : Prop :=
  ∀ (xs : List Rat) (ts : Rat), ts ≤ 0 → (paired xs ts).length % 2 = 0
    ∧ ∀ k x, (paired xs ts)[k]? = some x → if k % 2 = 0 then 0 ≤ x else x ≤ 0

/-- 41_normalizer.md R128: TRIM.L removes the longest prefix of elements of 0 or less and nothing else. -/
def Obligations.TrimLeadingRemovesTheLongestSilentPrefix : Prop :=
  ∀ (s : State) (silent rest : List Rat), s.bufD = silent ++ rest → (∀ x ∈ silent, x ≤ 0) →
    (∀ x, rest.head? = some x → 0 < x) → exec .trimL s = .next { s with bufD := rest }

/-- 41_normalizer.md R129: TRIM.T removes the longest suffix of elements of 0 or less and nothing else. -/
def Obligations.TrimTrailingRemovesTheLongestSilentSuffix : Prop :=
  ∀ (s : State) (rest silent : List Rat), s.bufD = rest ++ silent → (∀ x ∈ silent, x ≤ 0) →
    (∀ x, rest.getLast? = some x → 0 < x) → exec .trimT s = .next { s with bufD := rest }

/-- 41_normalizer.md R132: REPEAT with a count above 1 makes that many copies in all, Overflow if they exceed `DCAP`; with
any other count nothing changes. -/
def Obligations.RepeatConcatenatesCopies : Prop :=
  ∀ s : State,
    (s.pCount.toInt ≤ 1 → exec .repeatSignal s = .next s)
    ∧ (∀ n : Nat, s.pCount.toInt = (n : Int) → 1 < n →
      (room s.cfg.dcap (n * s.bufD.length) = true →
        ∃ xs, exec .repeatSignal s = .next { s with bufD := xs } ∧ xs.length = n * s.bufD.length
          ∧ ∀ k, k < xs.length → xs[k]? = s.bufD[k % s.bufD.length]?)
      ∧ (room s.cfg.dcap (n * s.bufD.length) = false → exec .repeatSignal s = .next (overflow s)))

/-! ### Protocol codecs -/

/-- 42_nec.md R140 to R143: each of the twenty NEC encoders writes its frame of 68 Durations to `D`, for every operand it
accepts, and changes nothing else. -/
def Obligations.NecEncodersWriteTheirFrame : Prop :=
  ∀ (v : NecVariant) (x : NecSuffix) (s : State),
    NecAccepts x s.pDevice.toInt s.pSubdevice.toInt s.pFunction.toInt → room s.cfg.dcap 68 = true →
    exec (necInstr v x) s = .next
      { s with
        bufD := inUnits s.cfg.uNec.val
          (necTicks s.cfg.necLeader v x s.pDevice.toInt s.pSubdevice.toInt s.pFunction.toInt) }

/-- 42_nec.md R144, 60_exceptions.md R303: an NEC encoder raises DomainError for a first, second or fourth byte out of
range, else Overflow when 68 Durations do not fit `D`. -/
def Obligations.NecEncodersRefuseBytesOutOfRange : Prop :=
  ∀ (v : NecVariant) (x : NecSuffix) (s : State),
    (¬ NecAccepts x s.pDevice.toInt s.pSubdevice.toInt s.pFunction.toInt →
      exec (necInstr v x) s = .next (domainError s))
    ∧ (NecAccepts x s.pDevice.toInt s.pSubdevice.toInt s.pFunction.toInt → room s.cfg.dcap 68 = false →
      exec (necInstr v x) s = .next (overflow s))

/-- 42_nec.md R145: with the source's leader table (16, 16, 8, 8 for nec1, necx1, nec2, necx2) and any suffix, ENC.NEC1 and
ENC.NECX1 are the same function, and so are ENC.NEC2 and ENC.NECX2; the frames of ENC.NEC1 and ENC.NEC2 differ in their first
element only, the leader mark of 16 or 8 units; and where one of the two raises an error, the other raises the same. -/
def Obligations.NecVariantsDifferInTheLeaderOnly : Prop :=
  ∀ (x : NecSuffix) (s : State), s.cfg.necLeader = { nec1 := 16, nec2 := 8, necx1 := 16, necx2 := 8 } →
    exec (necInstr .nec1 x) s = exec (necInstr .necx1 x) s
    ∧ exec (necInstr .nec2 x) s = exec (necInstr .necx2 x) s
    ∧ (NecAccepts x s.pDevice.toInt s.pSubdevice.toInt s.pFunction.toInt → room s.cfg.dcap 68 = true →
      ∃ rest, exec (necInstr .nec1 x) s = .next { s with bufD := 16 * s.cfg.uNec.val :: rest }
        ∧ exec (necInstr .nec2 x) s = .next { s with bufD := 8 * s.cfg.uNec.val :: rest })
    ∧ (¬ (NecAccepts x s.pDevice.toInt s.pSubdevice.toInt s.pFunction.toInt ∧ room s.cfg.dcap 68 = true) →
      exec (necInstr .nec1 x) s = exec (necInstr .nec2 x) s ∧ ∃ t, exec (necInstr .nec1 x) s = .next t ∧ t.fault = true)

/-- 42_nec.md R148: an NEC frame is a normalized signal, which SIMPLIFY leaves unchanged (the leader mark being positive,
as in the source's table; `U_NEC` is positive by its type). -/
def Obligations.NecFrameIsNormalized : Prop :=
  ∀ (v : NecVariant) (x : NecSuffix) (s : State),
    NecAccepts x s.pDevice.toInt s.pSubdevice.toInt s.pFunction.toInt → room s.cfg.dcap 68 = true →
    0 < leaderUnits s.cfg.necLeader v →
    ∃ t, exec (necInstr v x) s = .next t ∧ Normalized t.bufD ∧ exec .simplify t = .next t

/-- 43_rc5.md R160, R162: ENC.RC5 writes its frame of 29 Durations, raises DomainError for a toggle or device out of
range, else Overflow when the frame does not fit `D`. -/
def Obligations.EncRc5WritesItsFrame : Prop :=
  ∀ s : State,
    (Rc5Accepts s.pDevice.toInt s.pToggle.toInt → room s.cfg.dcap 29 = true →
      exec .encRc5 s = .next
        { s with bufD := inUnits 889 (rc5Ticks s.pDevice.toInt s.pFunction.toInt s.pToggle.toInt) })
    ∧ (¬ Rc5Accepts s.pDevice.toInt s.pToggle.toInt → exec .encRc5 s = .next (domainError s))
    ∧ (Rc5Accepts s.pDevice.toInt s.pToggle.toInt → room s.cfg.dcap 29 = false →
      exec .encRc5 s = .next (overflow s))

/-- 43_rc5.md R165 to R169: DEC.RC5 quantizes the whole simplified signal; from ticks of the RC5 shape, -1 standing for
every tick past the end and nothing required after the frame, it writes device, function and toggle and nothing else; any
other ticks raise ProtocolDecodeError, and a signal that does not quantize raises its TimingToleranceError. -/
def Obligations.DecRc5ReadsTheFrame : Prop :=
  ∀ s : State,
    (∀ T, bitify s.cfg.roundTie (simplify s.bufD) 889 = .ok T →
      (Rc5Shape T → exec .decRc5 s = .next
        { s with
          pDevice := BitVec.ofNat 32 (rc5Field T 2 5)
          pFunction := BitVec.ofNat 32 (rc5FunctionOf T)
          pToggle := BitVec.ofNat 32 (rc5Field T 1 1) })
      ∧ (¬ Rc5Shape T → exec .decRc5 s = .next (decodeError s)))
    ∧ (∀ err, bitify s.cfg.roundTie (simplify s.bufD) 889 = .error err →
      ∃ d u e, err = .timing d u e ∧ exec .decRc5 s = .next (faulted s 2 d u e))

/-- 43_rc5.md R170: ENC.RC5 then DEC.RC5 leaves the three registers as they were, with or without a SIMPLIFY, a TRIM.T or
both between them. -/
def Obligations.Rc5RoundTrip : Prop :=
  ∀ s : State, 0 ≤ s.pDevice.toInt → s.pDevice.toInt ≤ 31 → 0 ≤ s.pFunction.toInt → s.pFunction.toInt ≤ 127 →
    0 ≤ s.pToggle.toInt → s.pToggle.toInt ≤ 1 → room s.cfg.dcap 29 = true →
    ∃ t a b c d, exec .encRc5 s = .next t ∧ exec .simplify t = .next a ∧ exec .trimT t = .next b
      ∧ exec .trimT a = .next c ∧ exec .simplify b = .next d
      ∧ ∀ x ∈ [t, a, b, c, d], exec .decRc5 x = .next x ∧ x.pDevice = s.pDevice ∧ x.pFunction = s.pFunction
        ∧ x.pToggle = s.pToggle

/-- 44_rc6.md R180: ENC.RC6 writes its frame of 45 Durations, raises DomainError for a field out of range, else Overflow
when the frame does not fit `D`. -/
def Obligations.EncRc6WritesItsFrame : Prop :=
  ∀ s : State,
    (Rc6Accepts s.pDevice.toInt s.pFunction.toInt s.pToggle.toInt s.pMode.toInt → room s.cfg.dcap 45 = true →
      exec .encRc6 s = .next
        { s with
          bufD := inUnits 444
            (rc6Ticks s.pDevice.toInt s.pFunction.toInt s.pToggle.toInt s.pMode.toInt) })
    ∧ (¬ Rc6Accepts s.pDevice.toInt s.pFunction.toInt s.pToggle.toInt s.pMode.toInt →
      exec .encRc6 s = .next (domainError s))
    ∧ (Rc6Accepts s.pDevice.toInt s.pFunction.toInt s.pToggle.toInt s.pMode.toInt → room s.cfg.dcap 45 = false →
      exec .encRc6 s = .next (overflow s))

/-- 44_rc6.md R185 to R189: DEC.RC6 quantizes the whole simplified signal; from ticks of the RC6 shape, -1 standing for
every tick past the end and nothing required after the frame, it writes device, function, toggle and mode and nothing else;
any other ticks raise ProtocolDecodeError, and a signal that does not quantize raises its TimingToleranceError. -/
def Obligations.DecRc6ReadsTheFrame : Prop :=
  ∀ s : State,
    (∀ T, bitify s.cfg.roundTie (simplify s.bufD) 444 = .ok T →
      (Rc6Shape T → exec .decRc6 s = .next
        { s with
          pDevice := BitVec.ofNat 32 (rc6Field T 20 8)
          pFunction := BitVec.ofNat 32 (rc6Field T 36 8)
          pToggle := BitVec.ofNat 32 (if tickAt T 16 = 1 then 1 else 0)
          pMode := BitVec.ofNat 32 (rc6Field T 10 3) })
      ∧ (¬ Rc6Shape T → exec .decRc6 s = .next (decodeError s)))
    ∧ (∀ err, bitify s.cfg.roundTie (simplify s.bufD) 444 = .error err →
      ∃ d u e, err = .timing d u e ∧ exec .decRc6 s = .next (faulted s 2 d u e))

/-- 44_rc6.md R190: ENC.RC6 then DEC.RC6 leaves the four registers as they were, with or without a SIMPLIFY, a TRIM.T or
both between them. -/
def Obligations.Rc6RoundTrip : Prop :=
  ∀ s : State, 0 ≤ s.pDevice.toInt → s.pDevice.toInt ≤ 255 → 0 ≤ s.pFunction.toInt → s.pFunction.toInt ≤ 255 →
    0 ≤ s.pToggle.toInt → s.pToggle.toInt ≤ 1 → 0 ≤ s.pMode.toInt → s.pMode.toInt ≤ 7 → room s.cfg.dcap 45 = true →
    ∃ t a b c d, exec .encRc6 s = .next t ∧ exec .simplify t = .next a ∧ exec .trimT t = .next b
      ∧ exec .trimT a = .next c ∧ exec .simplify b = .next d
      ∧ ∀ x ∈ [t, a, b, c, d], exec .decRc6 x = .next x ∧ x.pDevice = s.pDevice ∧ x.pFunction = s.pFunction
        ∧ x.pToggle = s.pToggle ∧ x.pMode = s.pMode

/-- 43_rc5.md R171, 44_rc6.md R191: whatever the signal, what a decoder writes is in range. -/
def Obligations.DecodersWriteValuesInRange : Prop :=
  ∀ s t : State, s.fault = false → t.fault = false →
    (exec .decRc5 s = .next t → t.pDevice.toNat < 32 ∧ t.pFunction.toNat < 128 ∧ t.pToggle.toNat < 2)
    ∧ (exec .decRc6 s = .next t →
      t.pDevice.toNat < 256 ∧ t.pFunction.toNat < 256 ∧ t.pToggle.toNat < 2 ∧ t.pMode.toNat < 8)

/-- 45_rca38.md R200, R201: ENC.RCA38 writes its frame of 52 Durations, raises DomainError for a device or function out of
range, else Overflow when the frame does not fit `D`. -/
def Obligations.EncRca38WritesItsFrame : Prop :=
  ∀ s : State,
    (Rca38Accepts s.pDevice.toInt s.pFunction.toInt → room s.cfg.dcap 52 = true →
      exec .encRca38 s = .next { s with bufD := inUnits 460 (rca38Ticks s.pDevice.toInt s.pFunction.toInt) })
    ∧ (¬ Rca38Accepts s.pDevice.toInt s.pFunction.toInt → exec .encRca38 s = .next (domainError s))
    ∧ (Rca38Accepts s.pDevice.toInt s.pFunction.toInt → room s.cfg.dcap 52 = false →
      exec .encRca38 s = .next (overflow s))

/-- 45_rca38.md R202: the inverted code of a field is the plain code of its complement, and every frame has twelve spaces of
4 units and twelve of 2 and lasts 59340 microseconds. -/
def Obligations.EveryRca38FrameLastsTheSameTime : Prop :=
  (∀ (w : Nat) (v : Int), 0 ≤ v → v ≤ 2 ^ w - 1 → field v w rcaInv = field (2 ^ w - 1 - v) w rcaBit)
    ∧ (∀ s : State, Rca38Accepts s.pDevice.toInt s.pFunction.toInt → room s.cfg.dcap 52 = true →
      ∃ t, exec .encRca38 s = .next t ∧ t.bufD.count (-1840) = 12 ∧ t.bufD.count (-920) = 12
        ∧ (t.bufD.map fun x => |x|).sum = 59340)

/-- 45_rca38.md R203: an RCA-38 frame is normalized; SIMPLIFY leaves it unchanged and PAIRED adds nothing to it. -/
def Obligations.Rca38FrameIsNormalized : Prop :=
  ∀ s : State, Rca38Accepts s.pDevice.toInt s.pFunction.toInt → room s.cfg.dcap 52 = true →
    ∃ t, exec .encRca38 s = .next t ∧ Normalized t.bufD ∧ exec .simplify t = .next t ∧ exec .paired t = .next t

/-! ### Wire codecs -/

/-- 46_broadlink.md R210, R212 to R217: BL.ENC writes the stream of the simplified signal, closed by the trailing silence
when it ends with a mark; it raises DomainError for a repeat count, magnitude or length that does not fit, else Overflow when
the stream does not fit `B`. -/
def Obligations.BlEncWritesTheStream : Prop :=
  ∀ s : State,
    (BlAccepts s.cfg.roundTie s.pBlrep.toInt s.bufD →
      (room s.cfg.bcap (blStreamOf s.cfg.roundTie s.pBlrep.toInt s.bufD).length = true →
        exec .blEnc s = .next { s with bufB := blStreamOf s.cfg.roundTie s.pBlrep.toInt s.bufD })
      ∧ (room s.cfg.bcap (blStreamOf s.cfg.roundTie s.pBlrep.toInt s.bufD).length = false →
        exec .blEnc s = .next (overflow s)))
    ∧ (¬ BlAccepts s.cfg.roundTie s.pBlrep.toInt s.bufD → exec .blEnc s = .next (domainError s))

/-- 46_broadlink.md R216: a stream BL.ENC writes has a length of 12 modulo 16, with at most 15 bytes of padding, all zero. -/
def Obligations.BlEncPadsToSixteen : Prop :=
  ∀ s t : State, BlAccepts s.cfg.roundTie s.pBlrep.toInt s.bufD →
    room s.cfg.bcap (blStreamOf s.cfg.roundTie s.pBlrep.toInt s.bufD).length = true → exec .blEnc s = .next t →
    t.bufB.length % 16 = 12
      ∧ ∃ rep payload pad, t.bufB = blBytes rep payload (List.replicate pad 0#8) ∧ pad ≤ 15 ∧ payload.length ≤ 65535

/-- 46_broadlink.md R220, R223, R224, R226: from a stream whose payload is a list of entries BL.DEC writes the Durations with
alternating signs and the repeat byte, sets WARN exactly when a byte after the payload is not zero, and changes nothing else;
Overflow when the Durations do not fit `D`. -/
def Obligations.BlDecReadsTheStream : Prop :=
  ∀ (s : State) (rep : Byte) (es : List (Nat × Bool)) (tail : List Byte), EntriesOk es →
    (payloadOf es).length ≤ 65535 → s.bufB = blBytes rep (payloadOf es) tail →
    (room s.cfg.dcap es.length = true → exec .blDec s = .next (blDecoded s rep (es.map (·.1)) tail))
      ∧ (room s.cfg.dcap es.length = false → exec .blDec s = .next (overflow s))

/-- 46_broadlink.md R221 to R223: an empty stream, a wrong tag, a header cut short, a payload longer than the stream, and an
escape with fewer than two bytes after it in the payload raise FormatError. -/
def Obligations.BlDecRefusesMalformedStreams : Prop :=
  ∀ s : State,
    (s.bufB.head? ≠ some 0x26#8 → exec .blDec s = .next (formatError s))
    ∧ (s.bufB.length < 4 → exec .blDec s = .next (formatError s))
    ∧ (∀ tag rep low high rest, s.bufB = tag :: rep :: low :: high :: rest →
      rest.length < low.toNat + 256 * high.toNat → exec .blDec s = .next (formatError s))
    ∧ (∀ rep es cut tail, EntriesOk es → (cut = [] ∨ ∃ b, cut = [b]) →
      (payloadOf es ++ 0#8 :: cut).length ≤ 65535 → s.bufB = blBytes rep (payloadOf es ++ 0#8 :: cut) tail →
      exec .blDec s = .next (formatError s))

/-- 46_broadlink.md R229: BL.DEC then BL.ENC leaves a canonical stream as it was, and sets no warning. -/
def Obligations.BroadlinkRoundTrip : Prop :=
  ∀ (s : State) (rep : Byte) (ms : List Nat), (∀ m ∈ ms, 1 ≤ m ∧ m ≤ 65535) → ms.length % 2 = 0 →
    (ms.flatMap blEntryBytes).length ≤ 65535 →
    s.bufB = blBytes rep (ms.flatMap blEntryBytes) (blPadding (ms.flatMap blEntryBytes).length) →
    room s.cfg.dcap ms.length = true → room s.cfg.bcap s.bufB.length = true →
    ∃ t, exec .blDec s = .next t ∧ t.bufB = s.bufB ∧ t.status = s.status ∧ exec .blEnc t = .next t

/-- 30_encoding.md R89: on decode no tie can occur: no magnitude lies an exact half away from an integer number of
microseconds, so the Durations of a decoded payload do not depend on the tie rule. -/
def Obligations.BroadlinkDecodeMeetsNoTie : Prop :=
  (∀ (m : Nat) (n : Int), |(m : Rat) * 8192 / 269 - (n : Rat)| ≠ 1 / 2)
    ∧ (∀ (mark : Bool) (ms : List Nat), blDurations .halfEven mark ms = blDurations .halfAway mark ms)

/-- 47_pronto.md R240 to R244: the three Pronto encoders write tag, base, pair counts and the truncated counts of both
sequences, each simplified and paired on its own; Overflow when the code does not fit `W`. -/
def Obligations.ProntoEncodersWriteTheCode : Prop :=
  ∀ (s : State) (i : Instr) (base : Nat) (freq : Rat), ProntoClockOf i s base freq → ProntoFits freq s.bufD s.bufE →
    (room s.cfg.wcap (prontoWords base freq s.bufD s.bufE).length = true →
      exec i s = .next { s with bufW := prontoWords base freq s.bufD s.bufE })
    ∧ (room s.cfg.wcap (prontoWords base freq s.bufD s.bufE).length = false → exec i s = .next (overflow s))

/-- 47_pronto.md R245: a base, a pair count or a count outside its word raises DomainError. -/
def Obligations.ProntoEncodersRefuseWhatDoesNotFit : Prop :=
  ∀ s : State,
    ((s.pBase.toInt < 1 ∨ 65535 < s.pBase.toInt) → exec .prontoEncBase s = .next (domainError s))
    ∧ (s.qFreq ≤ 0 → exec .prontoEncFreq s = .next (domainError s))
    ∧ (0 < s.qFreq → (⌊500000 / (s.qFreq * 120623)⌋ < 1 ∨ 65535 < ⌊500000 / (s.qFreq * 120623)⌋) →
      exec .prontoEncFreq s = .next (domainError s))
    ∧ (∀ i base freq, ProntoClockOf i s base freq → ¬ ProntoFits freq s.bufD s.bufE →
      exec i s = .next (domainError s))

/-- 47_pronto.md R250, R254, R255: from a code with enough words PRONTO.DEC writes one Duration per count, rounded to a tenth
with alternating signs, the header words and the frequency, ignores further words, and changes nothing else; Overflow when the
Durations do not fit `D`. -/
def Obligations.ProntoDecReadsTheCode : Prop :=
  ∀ (s : State) (base n1 n2 : Half) (counts extra : List Half), s.bufW = [0#16, base, n1, n2] ++ counts ++ extra →
    base ≠ 0#16 → counts.length = 2 * (n1.toNat + n2.toNat) →
    (room s.cfg.dcap counts.length = true → exec .prontoDec s = .next (prontoDecoded s base n1 n2 counts))
      ∧ (room s.cfg.dcap counts.length = false → exec .prontoDec s = .next (overflow s))

/-- 47_pronto.md R252, R253: an empty code, a tag that is not 0, a header cut short, a base of 0 and too few words raise
FormatError. -/
def Obligations.ProntoDecRefusesMalformedCodes : Prop :=
  ∀ s : State,
    (s.bufW.head? ≠ some 0#16 → exec .prontoDec s = .next (formatError s))
    ∧ (s.bufW.length < 4 → exec .prontoDec s = .next (formatError s))
    ∧ (∀ tag n1 n2 rest, s.bufW = tag :: 0#16 :: n1 :: n2 :: rest → exec .prontoDec s = .next (formatError s))
    ∧ (∀ tag base n1 n2 rest, s.bufW = tag :: base :: n1 :: n2 :: rest →
      rest.length < 2 * (n1.toNat + n2.toNat) → exec .prontoDec s = .next (formatError s))
end

