-- ==== Sys2Proof/Laws/Operands.lean ====
section
/-! SUPPORT. The operand forms of Machine/Operands.lean in the library's terms. -/

namespace Sys2Proof.Machine

/-- `absRat` is the library's absolute value. -/
theorem absRat_eq_abs (x : Rat) : absRat x = |x| := by
  unfold absRat
  split
  · rename_i h; exact (abs_of_nonneg h).symm
  · rename_i h; exact (abs_of_neg (not_le.mp h)).symm

theorem absRat_nonneg (x : Rat) : 0 ≤ absRat x := by rw [absRat_eq_abs]; exact abs_nonneg x

theorem signRat_of_pos {x : Rat} (h : 0 < x) : signRat x = 1 := by simp [signRat, h]

theorem signRat_of_neg {x : Rat} (h : x < 0) : signRat x = -1 := by simp [signRat, h, not_lt.mpr h.le]

@[simp] theorem signRat_zero : signRat 0 = 0 := by simp [signRat]

theorem cls_of_nonneg {x : Rat} (h : 0 ≤ x) : cls x = 1 := by simp [cls, not_lt.mpr h]

theorem cls_of_neg {x : Rat} (h : x < 0) : cls x = -1 := by simp [cls, h]

/-- `Rat.floor` is the library's floor. -/
theorem floor_eq (x : Rat) : x.floor = ⌊x⌋ := rfl

/-- The three cases of `round`, on the fractional part. -/
theorem roundRat_cases (tie : RoundTie) (x : Rat) :
    (x - ⌊x⌋ < 1 / 2 ∧ roundRat tie x = ⌊x⌋)
      ∨ (1 / 2 < x - ⌊x⌋ ∧ roundRat tie x = ⌊x⌋ + 1)
      ∨ (x - ⌊x⌋ = 1 / 2 ∧ roundRat tie x = roundHalf tie ⌊x⌋) := by
  rw [← floor_eq]
  unfold roundRat
  dsimp only
  rcases lt_trichotomy (x - (x.floor : Rat)) (1 / 2) with h | h | h
  · exact .inl ⟨h, if_pos h⟩
  · exact .inr (.inr ⟨h, by rw [if_neg h.not_lt, if_neg h.not_gt]⟩)
  · exact .inr (.inl ⟨h, by rw [if_neg (not_lt.mpr h.le), if_pos h]⟩)

@[simp] theorem bitsMsb_length (n v : Nat) : (bitsMsb n v).length = n := by
  induction n with
  | zero => rfl
  | succ n ih => simp [bitsMsb, ih]

/-- What `U2B` can answer (40_primitives.md R101): DomainError, or the bits of the value read as `w`-bit two's
complement. -/
theorem u2b_cases (v w : Int) :
    u2b v w = .error .domain
      ∨ (0 ≤ w ∧ w ≤ 31 ∧ -2 ^ w.toNat ≤ v ∧ v < 2 ^ w.toNat
        ∧ u2b v w = .ok (bitsMsb w.toNat (if v < 0 then v + 2 ^ w.toNat else v).toNat)) := by
  unfold u2b pw
  split
  · exact .inl rfl
  · rename_i hw
    push Not at hw
    dsimp only
    by_cases hv : (if v < 0 then v + 2 ^ w.toNat else v) < 0
        ∨ (2 : Int) ^ w.toNat - 1 < (if v < 0 then v + 2 ^ w.toNat else v)
    · exact .inl (if_pos hv)
    · refine .inr ⟨hw.1, by omega, ?_, ?_, if_neg hv⟩
      · push Not at hv
        have h1 := hv.1
        split at h1 <;> omega
      · push Not at hv
        have h2 := hv.2
        have h1 := hv.1
        split at h2 <;> omega

/-- `U2B` raises nothing but DomainError. -/
theorem u2b_error {v w : Int} {e : Err} (h : u2b v w = .error e) : e = .domain := by
  rcases u2b_cases v w with h' | ⟨_, _, _, _, h'⟩ <;> rw [h'] at h <;> cases h
  rfl

/-- A field raises exactly when `U2B` does (30_encoding.md R82). -/
theorem field_cases (v w : Int) (code : Bool → List Int) :
    (u2b v w = .error .domain ∧ field v w code = .error .domain)
      ∨ (∃ bits, u2b v w = .ok bits ∧ field v w code = .ok (bits.flatMap code)) := by
  cases h : u2b v w with
  | error e => exact .inl ⟨by rw [u2b_error h], by simp [field, h, Except.map, u2b_error h]⟩
  | ok bits => exact .inr ⟨bits, rfl, by simp [field, h, Except.map]⟩

/-- An NEC byte raises exactly when `U2B` does (30_encoding.md R78). -/
theorem necByte_cases (v : Int) :
    (u2b v 8 = .error .domain ∧ necByte v = .error .domain)
      ∨ (∃ bits, u2b v 8 = .ok bits ∧ necByte v = .ok (bits.reverse.flatMap necBit)) := by
  cases h : u2b v 8 with
  | error e => exact .inl ⟨by rw [u2b_error h], by simp [necByte, h, Except.map, u2b_error h]⟩
  | ok bits => exact .inr ⟨bits, rfl, by simp [necByte, h, Except.map]⟩

/-- The fold of `B2U` from `v` (40_primitives.md R103). -/
theorem foldl_b2uStep_lt (bits : List Bool) (v : Nat) : bits.foldl b2uStep v < (v + 1) * 2 ^ bits.length := by
  induction bits generalizing v with
  | nil => simp
  | cons b bits ih =>
    have h := ih (b2uStep v b)
    have hb : b2uStep v b + 1 ≤ 2 * (v + 1) := by cases b <;> simp only [b2uStep, Bool.toNat_true, Bool.toNat_false] <;> omega
    calc (b :: bits).foldl b2uStep v = bits.foldl b2uStep (b2uStep v b) := rfl
      _ < (b2uStep v b + 1) * 2 ^ bits.length := h
      _ ≤ 2 * (v + 1) * 2 ^ bits.length := Nat.mul_le_mul_right _ hb
      _ = (v + 1) * 2 ^ (b :: bits).length := by rw [List.length_cons, pow_succ]; ring

/-- `B2U` of `n` symbols is below `2^n`. -/
theorem b2u_lt (bits : List Bool) : b2u bits < 2 ^ bits.length := by
  simpa [b2u] using foldl_b2uStep_lt bits 0

end Sys2Proof.Machine
end

