-- ==== Sys2Proof/Laws/Signal.lean ====
section
/-! SUPPORT. What the signal functions of Machine/Signal.lean can answer, and how long their results are. -/

namespace Sys2Proof.Machine

/-- What the quantizer answers for one Duration (40_primitives.md R105). -/
theorem bitifyOne_cases (tie : RoundTie) (u d : Rat) :
    (absRat (absRat d - (roundRat tie (absRat d / u) : Rat) * u) / u ≤ tolerance
        ∧ bitifyOne tie u d = .ok (List.replicate (roundRat tie (absRat d / u)).toNat (signRat d)))
      ∨ (tolerance < absRat (absRat d - (roundRat tie (absRat d / u) : Rat) * u) / u
        ∧ bitifyOne tie u d
          = .error (.timing d u (absRat (absRat d - (roundRat tie (absRat d / u) : Rat) * u) / u))) := by
  unfold bitifyOne
  by_cases h : tolerance < absRat (absRat d - (roundRat tie (absRat d / u) : Rat) * u) / u
  · exact .inr ⟨h, if_pos h⟩
  · exact .inl ⟨not_lt.mp h, if_neg h⟩

@[simp] theorem bitifyAll_nil (tie : RoundTie) (u : Rat) : bitifyAll tie u [] = .ok [] := rfl

/-- The quantizer over a signal: the head first, so that the first error in sequence order is the one raised. -/
theorem bitifyAll_cons_cases (tie : RoundTie) (u d : Rat) (ds : List Rat) :
    (∃ e, bitifyOne tie u d = .error e ∧ bitifyAll tie u (d :: ds) = .error e)
      ∨ (∃ run e, bitifyOne tie u d = .ok run ∧ bitifyAll tie u ds = .error e
        ∧ bitifyAll tie u (d :: ds) = .error e)
      ∨ (∃ run rest, bitifyOne tie u d = .ok run ∧ bitifyAll tie u ds = .ok rest
        ∧ bitifyAll tie u (d :: ds) = .ok (run ++ rest)) := by
  cases h : bitifyOne tie u d with
  | error e => exact .inl ⟨e, rfl, by simp [bitifyAll, h]⟩
  | ok run =>
    cases h' : bitifyAll tie u ds with
    | error e => exact .inr (.inl ⟨run, e, rfl, rfl, by simp [bitifyAll, h, h']⟩)
    | ok rest => exact .inr (.inr ⟨run, rest, rfl, rfl, by simp [bitifyAll, h, h']⟩)

@[simp] theorem unbitify_length (ts : List Rat) (u : Rat) : (unbitify ts u).length = ts.length := by simp [unbitify]

@[simp] theorem ticksToD_length (ts : List Int) : (ticksToD ts).length = ts.length := by simp [ticksToD]

@[simp] theorem rescale_length (ts : List Int) (u : Rat) : (rescale ts u).length = ts.length := by simp [rescale]

/-- A run in progress adds at most one element. -/
theorem simplifyFrom_length_le (acc : Rat) (xs : List Rat) : (simplifyFrom acc xs).length ≤ xs.length + 1 := by
  induction xs generalizing acc with
  | nil => unfold simplifyFrom; split <;> simp
  | cons x xs ih =>
    have h1 := ih acc
    have h2 := ih x
    have h3 := ih (acc + x)
    unfold simplifyFrom
    repeat' split
    all_goals simp only [List.length_cons]; omega

/-- SIMPLIFY never lengthens (41_normalizer.md R120). -/
theorem simplify_length_le (xs : List Rat) : (simplify xs).length ≤ xs.length := by
  induction xs with
  | nil => simp [simplify, simplifyFrom]
  | cons x xs ih =>
    have h := simplifyFrom_length_le x xs
    unfold simplify at ih ⊢
    unfold simplifyFrom
    repeat' split
    all_goals simp only [List.length_cons] at *; first | omega | contradiction

theorem trimLeading_length_le (xs : List Rat) : (trimLeading xs).length ≤ xs.length := by
  induction xs with
  | nil => simp [trimLeading]
  | cons x xs ih =>
    unfold trimLeading
    split
    · simp only [List.length_cons]; omega
    · exact le_rfl

theorem trimTrailing_length_le (xs : List Rat) : (trimTrailing xs).length ≤ xs.length := by
  have h := trimLeading_length_le xs.reverse
  simpa [trimTrailing] using h

/-- PAIRED's loop emits at most two elements for each it reads, and one at the end (41_normalizer.md R124). -/
theorem pairedFrom_length_le (ts : Rat) (expected : Int) (xs : List Rat) :
    (pairedFrom ts expected xs).length ≤ 2 * xs.length + 1 := by
  induction xs generalizing expected with
  | nil => unfold pairedFrom; split <;> simp
  | cons x xs ih =>
    have h1 := ih expected
    have h2 := ih (-expected)
    unfold pairedFrom
    split <;> simp only [List.length_cons] <;> omega

end Sys2Proof.Machine
end

