-- ==== Sys2Proof/Laws/Codecs.lean ====
section
/-! SUPPORT. What the readers shared by the codecs can answer. -/

namespace Sys2Proof.Machine

/-- A bit of RC5 is read from one of two pairs of ticks, or refused (43_rc5.md R168). -/
theorem rc5Read_cases (T : List Int) (i : Nat) :
    (tick T i = -1 ∧ tick T (i + 1) = 1 ∧ rc5Read T i = .ok true)
      ∨ (tick T i = 1 ∧ tick T (i + 1) = -1 ∧ rc5Read T i = .ok false)
      ∨ (¬ (tick T i = -1 ∧ tick T (i + 1) = 1) ∧ ¬ (tick T i = 1 ∧ tick T (i + 1) = -1)
        ∧ rc5Read T i = .error .protocolDecode) := by
  by_cases h1 : tick T i = -1 ∧ tick T (i + 1) = 1
  · exact .inl ⟨h1.1, h1.2, if_pos h1⟩
  · by_cases h2 : tick T i = 1 ∧ tick T (i + 1) = -1
    · exact .inr (.inl ⟨h2.1, h2.2, by rw [rc5Read, if_neg h1, if_pos h2]⟩)
    · exact .inr (.inr ⟨h1, h2, by rw [rc5Read, if_neg h1, if_neg h2]⟩)

/-- A bit of RC6 is read from one of two pairs of ticks, or refused (44_rc6.md R187). -/
theorem rc6Read_cases (T : List Int) (i : Nat) :
    (tick T i = 1 ∧ tick T (i + 1) = -1 ∧ rc6Read T i = .ok true)
      ∨ (tick T i = -1 ∧ tick T (i + 1) = 1 ∧ rc6Read T i = .ok false)
      ∨ (¬ (tick T i = 1 ∧ tick T (i + 1) = -1) ∧ ¬ (tick T i = -1 ∧ tick T (i + 1) = 1)
        ∧ rc6Read T i = .error .protocolDecode) := by
  by_cases h1 : tick T i = 1 ∧ tick T (i + 1) = -1
  · exact .inl ⟨h1.1, h1.2, if_pos h1⟩
  · by_cases h2 : tick T i = -1 ∧ tick T (i + 1) = 1
    · exact .inr (.inl ⟨h2.1, h2.2, by rw [rc6Read, if_neg h1, if_pos h2]⟩)
    · exact .inr (.inr ⟨h1, h2, by rw [rc6Read, if_neg h1, if_neg h2]⟩)

/-- Reading `n + 1` bits: the first is read first, and its error is the one raised. -/
theorem readBits_succ_cases (rd : Nat → Except Err Bool) (i n : Nat) :
    (∃ e, rd i = .error e ∧ readBits rd i (n + 1) = .error e)
      ∨ (∃ b e, rd i = .ok b ∧ readBits rd (i + 2) n = .error e ∧ readBits rd i (n + 1) = .error e)
      ∨ (∃ b bs, rd i = .ok b ∧ readBits rd (i + 2) n = .ok bs ∧ readBits rd i (n + 1) = .ok (b :: bs)) := by
  cases h : rd i with
  | error e => exact .inl ⟨e, rfl, by simp [readBits, h]⟩
  | ok b =>
    cases h' : readBits rd (i + 2) n with
    | error e => exact .inr (.inl ⟨b, e, rfl, rfl, by simp [readBits, h, h']⟩)
    | ok bs => exact .inr (.inr ⟨b, bs, rfl, rfl, by simp [readBits, h, h']⟩)

/-- `n` bits read are `n` bits. -/
theorem readBits_length {rd : Nat → Except Err Bool} {i n : Nat} {bs : List Bool} (h : readBits rd i n = .ok bs) :
    bs.length = n := by
  induction n generalizing i bs with
  | zero => cases h; rfl
  | succ n ih =>
    rcases readBits_succ_cases rd i n with ⟨e, _, h'⟩ | ⟨b, e, _, _, h'⟩ | ⟨b, rest, _, hr, h'⟩ <;> rw [h'] at h <;> cases h
    simp [ih hr]

/-- A Broadlink entry is one byte, three bytes, or a DomainError (30_encoding.md R88; 46_broadlink.md R214, R215). -/
theorem blEntry_cases (m : Int) :
    (m ≤ 255 ∧ blEntry m = .ok [BitVec.ofInt 8 m])
      ∨ (255 < m ∧ m ≤ 65535 ∧ blEntry m = .ok [0#8, BitVec.ofInt 8 (m / 256), BitVec.ofInt 8 (m % 256)])
      ∨ (65535 < m ∧ blEntry m = .error .domain) := by
  by_cases h1 : m ≤ 255
  · exact .inl ⟨h1, if_pos h1⟩
  · by_cases h2 : m ≤ max16
    · exact .inr (.inl ⟨not_le.mp h1, h2, by rw [blEntry, if_neg h1, if_pos h2]⟩)
    · exact .inr (.inr ⟨not_le.mp h2, by rw [blEntry, if_neg h1, if_neg h2]⟩)

end Sys2Proof.Machine
end

