-- ==== Sys2Proof/Laws/State.lean ====
section
/-! SUPPORT. What each named update of the state leaves in each field: one lemma per field and update. -/

namespace Sys2Proof.Machine

/-! ### `State.raise` -/

@[simp] theorem raise_pDevice (s : State) (e : Err) : (s.raise e).pDevice = s.pDevice := rfl
@[simp] theorem raise_pSubdevice (s : State) (e : Err) : (s.raise e).pSubdevice = s.pSubdevice := rfl
@[simp] theorem raise_pFunction (s : State) (e : Err) : (s.raise e).pFunction = s.pFunction := rfl
@[simp] theorem raise_pToggle (s : State) (e : Err) : (s.raise e).pToggle = s.pToggle := rfl
@[simp] theorem raise_pMode (s : State) (e : Err) : (s.raise e).pMode = s.pMode := rfl
@[simp] theorem raise_pValue (s : State) (e : Err) : (s.raise e).pValue = s.pValue := rfl
@[simp] theorem raise_pWidth (s : State) (e : Err) : (s.raise e).pWidth = s.pWidth := rfl
@[simp] theorem raise_pCount (s : State) (e : Err) : (s.raise e).pCount = s.pCount := rfl
@[simp] theorem raise_pBlrep (s : State) (e : Err) : (s.raise e).pBlrep = s.pBlrep := rfl
@[simp] theorem raise_pBase (s : State) (e : Err) : (s.raise e).pBase = s.pBase := rfl
@[simp] theorem raise_pN1 (s : State) (e : Err) : (s.raise e).pN1 = s.pN1 := rfl
@[simp] theorem raise_pN2 (s : State) (e : Err) : (s.raise e).pN2 = s.pN2 := rfl
@[simp] theorem raise_qUnit (s : State) (e : Err) : (s.raise e).qUnit = s.qUnit := rfl
@[simp] theorem raise_qTrail (s : State) (e : Err) : (s.raise e).qTrail = s.qTrail := rfl
@[simp] theorem raise_qFreq (s : State) (e : Err) : (s.raise e).qFreq = s.qFreq := rfl
@[simp] theorem raise_status (s : State) (e : Err) : (s.raise e).status = statusWord true s.warn s.busy e.code := rfl
@[simp] theorem raise_eValue (s : State) (e : Err) : (s.raise e).eValue = e.value := rfl
@[simp] theorem raise_eUnit (s : State) (e : Err) : (s.raise e).eUnit = e.unitLength := rfl
@[simp] theorem raise_eError (s : State) (e : Err) : (s.raise e).eError = e.unitError := rfl
@[simp] theorem raise_bufD (s : State) (e : Err) : (s.raise e).bufD = s.bufD := rfl
@[simp] theorem raise_bufE (s : State) (e : Err) : (s.raise e).bufE = s.bufE := rfl
@[simp] theorem raise_bufB (s : State) (e : Err) : (s.raise e).bufB = s.bufB := rfl
@[simp] theorem raise_bufW (s : State) (e : Err) : (s.raise e).bufW = s.bufW := rfl
@[simp] theorem raise_bufS (s : State) (e : Err) : (s.raise e).bufS = s.bufS := rfl
@[simp] theorem raise_cfg (s : State) (e : Err) : (s.raise e).cfg = s.cfg := rfl
@[simp] theorem raise_pending (s : State) (e : Err) : (s.raise e).pending = s.pending := rfl
@[simp] theorem raise_answers (s : State) (e : Err) : (s.raise e).answers = s.answers := rfl

/-! ### `State.setWarn` -/

@[simp] theorem setWarn_pDevice (s : State) : (s.setWarn).pDevice = s.pDevice := rfl
@[simp] theorem setWarn_pSubdevice (s : State) : (s.setWarn).pSubdevice = s.pSubdevice := rfl
@[simp] theorem setWarn_pFunction (s : State) : (s.setWarn).pFunction = s.pFunction := rfl
@[simp] theorem setWarn_pToggle (s : State) : (s.setWarn).pToggle = s.pToggle := rfl
@[simp] theorem setWarn_pMode (s : State) : (s.setWarn).pMode = s.pMode := rfl
@[simp] theorem setWarn_pValue (s : State) : (s.setWarn).pValue = s.pValue := rfl
@[simp] theorem setWarn_pWidth (s : State) : (s.setWarn).pWidth = s.pWidth := rfl
@[simp] theorem setWarn_pCount (s : State) : (s.setWarn).pCount = s.pCount := rfl
@[simp] theorem setWarn_pBlrep (s : State) : (s.setWarn).pBlrep = s.pBlrep := rfl
@[simp] theorem setWarn_pBase (s : State) : (s.setWarn).pBase = s.pBase := rfl
@[simp] theorem setWarn_pN1 (s : State) : (s.setWarn).pN1 = s.pN1 := rfl
@[simp] theorem setWarn_pN2 (s : State) : (s.setWarn).pN2 = s.pN2 := rfl
@[simp] theorem setWarn_qUnit (s : State) : (s.setWarn).qUnit = s.qUnit := rfl
@[simp] theorem setWarn_qTrail (s : State) : (s.setWarn).qTrail = s.qTrail := rfl
@[simp] theorem setWarn_qFreq (s : State) : (s.setWarn).qFreq = s.qFreq := rfl
@[simp] theorem setWarn_status (s : State) : (s.setWarn).status = s.status ||| 2#32 := rfl
@[simp] theorem setWarn_eValue (s : State) : (s.setWarn).eValue = s.eValue := rfl
@[simp] theorem setWarn_eUnit (s : State) : (s.setWarn).eUnit = s.eUnit := rfl
@[simp] theorem setWarn_eError (s : State) : (s.setWarn).eError = s.eError := rfl
@[simp] theorem setWarn_bufD (s : State) : (s.setWarn).bufD = s.bufD := rfl
@[simp] theorem setWarn_bufE (s : State) : (s.setWarn).bufE = s.bufE := rfl
@[simp] theorem setWarn_bufB (s : State) : (s.setWarn).bufB = s.bufB := rfl
@[simp] theorem setWarn_bufW (s : State) : (s.setWarn).bufW = s.bufW := rfl
@[simp] theorem setWarn_bufS (s : State) : (s.setWarn).bufS = s.bufS := rfl
@[simp] theorem setWarn_cfg (s : State) : (s.setWarn).cfg = s.cfg := rfl
@[simp] theorem setWarn_pending (s : State) : (s.setWarn).pending = s.pending := rfl
@[simp] theorem setWarn_answers (s : State) : (s.setWarn).answers = s.answers := rfl

/-! ### `State.putD` -/

@[simp] theorem putD_pDevice (s : State) (xs : List Rat) : (s.putD xs).pDevice = s.pDevice := rfl
@[simp] theorem putD_pSubdevice (s : State) (xs : List Rat) : (s.putD xs).pSubdevice = s.pSubdevice := rfl
@[simp] theorem putD_pFunction (s : State) (xs : List Rat) : (s.putD xs).pFunction = s.pFunction := rfl
@[simp] theorem putD_pToggle (s : State) (xs : List Rat) : (s.putD xs).pToggle = s.pToggle := rfl
@[simp] theorem putD_pMode (s : State) (xs : List Rat) : (s.putD xs).pMode = s.pMode := rfl
@[simp] theorem putD_pValue (s : State) (xs : List Rat) : (s.putD xs).pValue = s.pValue := rfl
@[simp] theorem putD_pWidth (s : State) (xs : List Rat) : (s.putD xs).pWidth = s.pWidth := rfl
@[simp] theorem putD_pCount (s : State) (xs : List Rat) : (s.putD xs).pCount = s.pCount := rfl
@[simp] theorem putD_pBlrep (s : State) (xs : List Rat) : (s.putD xs).pBlrep = s.pBlrep := rfl
@[simp] theorem putD_pBase (s : State) (xs : List Rat) : (s.putD xs).pBase = s.pBase := rfl
@[simp] theorem putD_pN1 (s : State) (xs : List Rat) : (s.putD xs).pN1 = s.pN1 := rfl
@[simp] theorem putD_pN2 (s : State) (xs : List Rat) : (s.putD xs).pN2 = s.pN2 := rfl
@[simp] theorem putD_qUnit (s : State) (xs : List Rat) : (s.putD xs).qUnit = s.qUnit := rfl
@[simp] theorem putD_qTrail (s : State) (xs : List Rat) : (s.putD xs).qTrail = s.qTrail := rfl
@[simp] theorem putD_qFreq (s : State) (xs : List Rat) : (s.putD xs).qFreq = s.qFreq := rfl
@[simp] theorem putD_status (s : State) (xs : List Rat) : (s.putD xs).status = s.status := rfl
@[simp] theorem putD_eValue (s : State) (xs : List Rat) : (s.putD xs).eValue = s.eValue := rfl
@[simp] theorem putD_eUnit (s : State) (xs : List Rat) : (s.putD xs).eUnit = s.eUnit := rfl
@[simp] theorem putD_eError (s : State) (xs : List Rat) : (s.putD xs).eError = s.eError := rfl
@[simp] theorem putD_bufD (s : State) (xs : List Rat) : (s.putD xs).bufD = xs := rfl
@[simp] theorem putD_bufE (s : State) (xs : List Rat) : (s.putD xs).bufE = s.bufE := rfl
@[simp] theorem putD_bufB (s : State) (xs : List Rat) : (s.putD xs).bufB = s.bufB := rfl
@[simp] theorem putD_bufW (s : State) (xs : List Rat) : (s.putD xs).bufW = s.bufW := rfl
@[simp] theorem putD_bufS (s : State) (xs : List Rat) : (s.putD xs).bufS = s.bufS := rfl
@[simp] theorem putD_cfg (s : State) (xs : List Rat) : (s.putD xs).cfg = s.cfg := rfl
@[simp] theorem putD_pending (s : State) (xs : List Rat) : (s.putD xs).pending = s.pending := rfl
@[simp] theorem putD_answers (s : State) (xs : List Rat) : (s.putD xs).answers = s.answers := rfl

/-! ### `State.putE` -/

@[simp] theorem putE_pDevice (s : State) (xs : List Rat) : (s.putE xs).pDevice = s.pDevice := rfl
@[simp] theorem putE_pSubdevice (s : State) (xs : List Rat) : (s.putE xs).pSubdevice = s.pSubdevice := rfl
@[simp] theorem putE_pFunction (s : State) (xs : List Rat) : (s.putE xs).pFunction = s.pFunction := rfl
@[simp] theorem putE_pToggle (s : State) (xs : List Rat) : (s.putE xs).pToggle = s.pToggle := rfl
@[simp] theorem putE_pMode (s : State) (xs : List Rat) : (s.putE xs).pMode = s.pMode := rfl
@[simp] theorem putE_pValue (s : State) (xs : List Rat) : (s.putE xs).pValue = s.pValue := rfl
@[simp] theorem putE_pWidth (s : State) (xs : List Rat) : (s.putE xs).pWidth = s.pWidth := rfl
@[simp] theorem putE_pCount (s : State) (xs : List Rat) : (s.putE xs).pCount = s.pCount := rfl
@[simp] theorem putE_pBlrep (s : State) (xs : List Rat) : (s.putE xs).pBlrep = s.pBlrep := rfl
@[simp] theorem putE_pBase (s : State) (xs : List Rat) : (s.putE xs).pBase = s.pBase := rfl
@[simp] theorem putE_pN1 (s : State) (xs : List Rat) : (s.putE xs).pN1 = s.pN1 := rfl
@[simp] theorem putE_pN2 (s : State) (xs : List Rat) : (s.putE xs).pN2 = s.pN2 := rfl
@[simp] theorem putE_qUnit (s : State) (xs : List Rat) : (s.putE xs).qUnit = s.qUnit := rfl
@[simp] theorem putE_qTrail (s : State) (xs : List Rat) : (s.putE xs).qTrail = s.qTrail := rfl
@[simp] theorem putE_qFreq (s : State) (xs : List Rat) : (s.putE xs).qFreq = s.qFreq := rfl
@[simp] theorem putE_status (s : State) (xs : List Rat) : (s.putE xs).status = s.status := rfl
@[simp] theorem putE_eValue (s : State) (xs : List Rat) : (s.putE xs).eValue = s.eValue := rfl
@[simp] theorem putE_eUnit (s : State) (xs : List Rat) : (s.putE xs).eUnit = s.eUnit := rfl
@[simp] theorem putE_eError (s : State) (xs : List Rat) : (s.putE xs).eError = s.eError := rfl
@[simp] theorem putE_bufD (s : State) (xs : List Rat) : (s.putE xs).bufD = s.bufD := rfl
@[simp] theorem putE_bufE (s : State) (xs : List Rat) : (s.putE xs).bufE = xs := rfl
@[simp] theorem putE_bufB (s : State) (xs : List Rat) : (s.putE xs).bufB = s.bufB := rfl
@[simp] theorem putE_bufW (s : State) (xs : List Rat) : (s.putE xs).bufW = s.bufW := rfl
@[simp] theorem putE_bufS (s : State) (xs : List Rat) : (s.putE xs).bufS = s.bufS := rfl
@[simp] theorem putE_cfg (s : State) (xs : List Rat) : (s.putE xs).cfg = s.cfg := rfl
@[simp] theorem putE_pending (s : State) (xs : List Rat) : (s.putE xs).pending = s.pending := rfl
@[simp] theorem putE_answers (s : State) (xs : List Rat) : (s.putE xs).answers = s.answers := rfl

/-! ### `State.putB` -/

@[simp] theorem putB_pDevice (s : State) (xs : List Byte) : (s.putB xs).pDevice = s.pDevice := rfl
@[simp] theorem putB_pSubdevice (s : State) (xs : List Byte) : (s.putB xs).pSubdevice = s.pSubdevice := rfl
@[simp] theorem putB_pFunction (s : State) (xs : List Byte) : (s.putB xs).pFunction = s.pFunction := rfl
@[simp] theorem putB_pToggle (s : State) (xs : List Byte) : (s.putB xs).pToggle = s.pToggle := rfl
@[simp] theorem putB_pMode (s : State) (xs : List Byte) : (s.putB xs).pMode = s.pMode := rfl
@[simp] theorem putB_pValue (s : State) (xs : List Byte) : (s.putB xs).pValue = s.pValue := rfl
@[simp] theorem putB_pWidth (s : State) (xs : List Byte) : (s.putB xs).pWidth = s.pWidth := rfl
@[simp] theorem putB_pCount (s : State) (xs : List Byte) : (s.putB xs).pCount = s.pCount := rfl
@[simp] theorem putB_pBlrep (s : State) (xs : List Byte) : (s.putB xs).pBlrep = s.pBlrep := rfl
@[simp] theorem putB_pBase (s : State) (xs : List Byte) : (s.putB xs).pBase = s.pBase := rfl
@[simp] theorem putB_pN1 (s : State) (xs : List Byte) : (s.putB xs).pN1 = s.pN1 := rfl
@[simp] theorem putB_pN2 (s : State) (xs : List Byte) : (s.putB xs).pN2 = s.pN2 := rfl
@[simp] theorem putB_qUnit (s : State) (xs : List Byte) : (s.putB xs).qUnit = s.qUnit := rfl
@[simp] theorem putB_qTrail (s : State) (xs : List Byte) : (s.putB xs).qTrail = s.qTrail := rfl
@[simp] theorem putB_qFreq (s : State) (xs : List Byte) : (s.putB xs).qFreq = s.qFreq := rfl
@[simp] theorem putB_status (s : State) (xs : List Byte) : (s.putB xs).status = s.status := rfl
@[simp] theorem putB_eValue (s : State) (xs : List Byte) : (s.putB xs).eValue = s.eValue := rfl
@[simp] theorem putB_eUnit (s : State) (xs : List Byte) : (s.putB xs).eUnit = s.eUnit := rfl
@[simp] theorem putB_eError (s : State) (xs : List Byte) : (s.putB xs).eError = s.eError := rfl
@[simp] theorem putB_bufD (s : State) (xs : List Byte) : (s.putB xs).bufD = s.bufD := rfl
@[simp] theorem putB_bufE (s : State) (xs : List Byte) : (s.putB xs).bufE = s.bufE := rfl
@[simp] theorem putB_bufB (s : State) (xs : List Byte) : (s.putB xs).bufB = xs := rfl
@[simp] theorem putB_bufW (s : State) (xs : List Byte) : (s.putB xs).bufW = s.bufW := rfl
@[simp] theorem putB_bufS (s : State) (xs : List Byte) : (s.putB xs).bufS = s.bufS := rfl
@[simp] theorem putB_cfg (s : State) (xs : List Byte) : (s.putB xs).cfg = s.cfg := rfl
@[simp] theorem putB_pending (s : State) (xs : List Byte) : (s.putB xs).pending = s.pending := rfl
@[simp] theorem putB_answers (s : State) (xs : List Byte) : (s.putB xs).answers = s.answers := rfl

/-! ### `State.putW` -/

@[simp] theorem putW_pDevice (s : State) (xs : List Half) : (s.putW xs).pDevice = s.pDevice := rfl
@[simp] theorem putW_pSubdevice (s : State) (xs : List Half) : (s.putW xs).pSubdevice = s.pSubdevice := rfl
@[simp] theorem putW_pFunction (s : State) (xs : List Half) : (s.putW xs).pFunction = s.pFunction := rfl
@[simp] theorem putW_pToggle (s : State) (xs : List Half) : (s.putW xs).pToggle = s.pToggle := rfl
@[simp] theorem putW_pMode (s : State) (xs : List Half) : (s.putW xs).pMode = s.pMode := rfl
@[simp] theorem putW_pValue (s : State) (xs : List Half) : (s.putW xs).pValue = s.pValue := rfl
@[simp] theorem putW_pWidth (s : State) (xs : List Half) : (s.putW xs).pWidth = s.pWidth := rfl
@[simp] theorem putW_pCount (s : State) (xs : List Half) : (s.putW xs).pCount = s.pCount := rfl
@[simp] theorem putW_pBlrep (s : State) (xs : List Half) : (s.putW xs).pBlrep = s.pBlrep := rfl
@[simp] theorem putW_pBase (s : State) (xs : List Half) : (s.putW xs).pBase = s.pBase := rfl
@[simp] theorem putW_pN1 (s : State) (xs : List Half) : (s.putW xs).pN1 = s.pN1 := rfl
@[simp] theorem putW_pN2 (s : State) (xs : List Half) : (s.putW xs).pN2 = s.pN2 := rfl
@[simp] theorem putW_qUnit (s : State) (xs : List Half) : (s.putW xs).qUnit = s.qUnit := rfl
@[simp] theorem putW_qTrail (s : State) (xs : List Half) : (s.putW xs).qTrail = s.qTrail := rfl
@[simp] theorem putW_qFreq (s : State) (xs : List Half) : (s.putW xs).qFreq = s.qFreq := rfl
@[simp] theorem putW_status (s : State) (xs : List Half) : (s.putW xs).status = s.status := rfl
@[simp] theorem putW_eValue (s : State) (xs : List Half) : (s.putW xs).eValue = s.eValue := rfl
@[simp] theorem putW_eUnit (s : State) (xs : List Half) : (s.putW xs).eUnit = s.eUnit := rfl
@[simp] theorem putW_eError (s : State) (xs : List Half) : (s.putW xs).eError = s.eError := rfl
@[simp] theorem putW_bufD (s : State) (xs : List Half) : (s.putW xs).bufD = s.bufD := rfl
@[simp] theorem putW_bufE (s : State) (xs : List Half) : (s.putW xs).bufE = s.bufE := rfl
@[simp] theorem putW_bufB (s : State) (xs : List Half) : (s.putW xs).bufB = s.bufB := rfl
@[simp] theorem putW_bufW (s : State) (xs : List Half) : (s.putW xs).bufW = xs := rfl
@[simp] theorem putW_bufS (s : State) (xs : List Half) : (s.putW xs).bufS = s.bufS := rfl
@[simp] theorem putW_cfg (s : State) (xs : List Half) : (s.putW xs).cfg = s.cfg := rfl
@[simp] theorem putW_pending (s : State) (xs : List Half) : (s.putW xs).pending = s.pending := rfl
@[simp] theorem putW_answers (s : State) (xs : List Half) : (s.putW xs).answers = s.answers := rfl

/-! ### `State.putS` -/

@[simp] theorem putS_pDevice (s : State) (xs : List Bool) : (s.putS xs).pDevice = s.pDevice := rfl
@[simp] theorem putS_pSubdevice (s : State) (xs : List Bool) : (s.putS xs).pSubdevice = s.pSubdevice := rfl
@[simp] theorem putS_pFunction (s : State) (xs : List Bool) : (s.putS xs).pFunction = s.pFunction := rfl
@[simp] theorem putS_pToggle (s : State) (xs : List Bool) : (s.putS xs).pToggle = s.pToggle := rfl
@[simp] theorem putS_pMode (s : State) (xs : List Bool) : (s.putS xs).pMode = s.pMode := rfl
@[simp] theorem putS_pValue (s : State) (xs : List Bool) : (s.putS xs).pValue = s.pValue := rfl
@[simp] theorem putS_pWidth (s : State) (xs : List Bool) : (s.putS xs).pWidth = s.pWidth := rfl
@[simp] theorem putS_pCount (s : State) (xs : List Bool) : (s.putS xs).pCount = s.pCount := rfl
@[simp] theorem putS_pBlrep (s : State) (xs : List Bool) : (s.putS xs).pBlrep = s.pBlrep := rfl
@[simp] theorem putS_pBase (s : State) (xs : List Bool) : (s.putS xs).pBase = s.pBase := rfl
@[simp] theorem putS_pN1 (s : State) (xs : List Bool) : (s.putS xs).pN1 = s.pN1 := rfl
@[simp] theorem putS_pN2 (s : State) (xs : List Bool) : (s.putS xs).pN2 = s.pN2 := rfl
@[simp] theorem putS_qUnit (s : State) (xs : List Bool) : (s.putS xs).qUnit = s.qUnit := rfl
@[simp] theorem putS_qTrail (s : State) (xs : List Bool) : (s.putS xs).qTrail = s.qTrail := rfl
@[simp] theorem putS_qFreq (s : State) (xs : List Bool) : (s.putS xs).qFreq = s.qFreq := rfl
@[simp] theorem putS_status (s : State) (xs : List Bool) : (s.putS xs).status = s.status := rfl
@[simp] theorem putS_eValue (s : State) (xs : List Bool) : (s.putS xs).eValue = s.eValue := rfl
@[simp] theorem putS_eUnit (s : State) (xs : List Bool) : (s.putS xs).eUnit = s.eUnit := rfl
@[simp] theorem putS_eError (s : State) (xs : List Bool) : (s.putS xs).eError = s.eError := rfl
@[simp] theorem putS_bufD (s : State) (xs : List Bool) : (s.putS xs).bufD = s.bufD := rfl
@[simp] theorem putS_bufE (s : State) (xs : List Bool) : (s.putS xs).bufE = s.bufE := rfl
@[simp] theorem putS_bufB (s : State) (xs : List Bool) : (s.putS xs).bufB = s.bufB := rfl
@[simp] theorem putS_bufW (s : State) (xs : List Bool) : (s.putS xs).bufW = s.bufW := rfl
@[simp] theorem putS_bufS (s : State) (xs : List Bool) : (s.putS xs).bufS = xs := rfl
@[simp] theorem putS_cfg (s : State) (xs : List Bool) : (s.putS xs).cfg = s.cfg := rfl
@[simp] theorem putS_pending (s : State) (xs : List Bool) : (s.putS xs).pending = s.pending := rfl
@[simp] theorem putS_answers (s : State) (xs : List Bool) : (s.putS xs).answers = s.answers := rfl

/-! ### `State.answer` -/

@[simp] theorem answer_pDevice (s : State) (a : Answer) : (s.answer a).pDevice = s.pDevice := rfl
@[simp] theorem answer_pSubdevice (s : State) (a : Answer) : (s.answer a).pSubdevice = s.pSubdevice := rfl
@[simp] theorem answer_pFunction (s : State) (a : Answer) : (s.answer a).pFunction = s.pFunction := rfl
@[simp] theorem answer_pToggle (s : State) (a : Answer) : (s.answer a).pToggle = s.pToggle := rfl
@[simp] theorem answer_pMode (s : State) (a : Answer) : (s.answer a).pMode = s.pMode := rfl
@[simp] theorem answer_pValue (s : State) (a : Answer) : (s.answer a).pValue = s.pValue := rfl
@[simp] theorem answer_pWidth (s : State) (a : Answer) : (s.answer a).pWidth = s.pWidth := rfl
@[simp] theorem answer_pCount (s : State) (a : Answer) : (s.answer a).pCount = s.pCount := rfl
@[simp] theorem answer_pBlrep (s : State) (a : Answer) : (s.answer a).pBlrep = s.pBlrep := rfl
@[simp] theorem answer_pBase (s : State) (a : Answer) : (s.answer a).pBase = s.pBase := rfl
@[simp] theorem answer_pN1 (s : State) (a : Answer) : (s.answer a).pN1 = s.pN1 := rfl
@[simp] theorem answer_pN2 (s : State) (a : Answer) : (s.answer a).pN2 = s.pN2 := rfl
@[simp] theorem answer_qUnit (s : State) (a : Answer) : (s.answer a).qUnit = s.qUnit := rfl
@[simp] theorem answer_qTrail (s : State) (a : Answer) : (s.answer a).qTrail = s.qTrail := rfl
@[simp] theorem answer_qFreq (s : State) (a : Answer) : (s.answer a).qFreq = s.qFreq := rfl
@[simp] theorem answer_status (s : State) (a : Answer) : (s.answer a).status = s.status := rfl
@[simp] theorem answer_eValue (s : State) (a : Answer) : (s.answer a).eValue = s.eValue := rfl
@[simp] theorem answer_eUnit (s : State) (a : Answer) : (s.answer a).eUnit = s.eUnit := rfl
@[simp] theorem answer_eError (s : State) (a : Answer) : (s.answer a).eError = s.eError := rfl
@[simp] theorem answer_bufD (s : State) (a : Answer) : (s.answer a).bufD = s.bufD := rfl
@[simp] theorem answer_bufE (s : State) (a : Answer) : (s.answer a).bufE = s.bufE := rfl
@[simp] theorem answer_bufB (s : State) (a : Answer) : (s.answer a).bufB = s.bufB := rfl
@[simp] theorem answer_bufW (s : State) (a : Answer) : (s.answer a).bufW = s.bufW := rfl
@[simp] theorem answer_bufS (s : State) (a : Answer) : (s.answer a).bufS = s.bufS := rfl
@[simp] theorem answer_cfg (s : State) (a : Answer) : (s.answer a).cfg = s.cfg := rfl
@[simp] theorem answer_pending (s : State) (a : Answer) : (s.answer a).pending = s.pending := rfl
@[simp] theorem answer_answers (s : State) (a : Answer) : (s.answer a).answers = s.answers ++ [a] := rfl

/-! ### `State.withPending` -/

@[simp] theorem withPending_pDevice (s : State) (rest : List HostAction) : (s.withPending rest).pDevice = s.pDevice := rfl
@[simp] theorem withPending_pSubdevice (s : State) (rest : List HostAction) : (s.withPending rest).pSubdevice = s.pSubdevice := rfl
@[simp] theorem withPending_pFunction (s : State) (rest : List HostAction) : (s.withPending rest).pFunction = s.pFunction := rfl
@[simp] theorem withPending_pToggle (s : State) (rest : List HostAction) : (s.withPending rest).pToggle = s.pToggle := rfl
@[simp] theorem withPending_pMode (s : State) (rest : List HostAction) : (s.withPending rest).pMode = s.pMode := rfl
@[simp] theorem withPending_pValue (s : State) (rest : List HostAction) : (s.withPending rest).pValue = s.pValue := rfl
@[simp] theorem withPending_pWidth (s : State) (rest : List HostAction) : (s.withPending rest).pWidth = s.pWidth := rfl
@[simp] theorem withPending_pCount (s : State) (rest : List HostAction) : (s.withPending rest).pCount = s.pCount := rfl
@[simp] theorem withPending_pBlrep (s : State) (rest : List HostAction) : (s.withPending rest).pBlrep = s.pBlrep := rfl
@[simp] theorem withPending_pBase (s : State) (rest : List HostAction) : (s.withPending rest).pBase = s.pBase := rfl
@[simp] theorem withPending_pN1 (s : State) (rest : List HostAction) : (s.withPending rest).pN1 = s.pN1 := rfl
@[simp] theorem withPending_pN2 (s : State) (rest : List HostAction) : (s.withPending rest).pN2 = s.pN2 := rfl
@[simp] theorem withPending_qUnit (s : State) (rest : List HostAction) : (s.withPending rest).qUnit = s.qUnit := rfl
@[simp] theorem withPending_qTrail (s : State) (rest : List HostAction) : (s.withPending rest).qTrail = s.qTrail := rfl
@[simp] theorem withPending_qFreq (s : State) (rest : List HostAction) : (s.withPending rest).qFreq = s.qFreq := rfl
@[simp] theorem withPending_status (s : State) (rest : List HostAction) : (s.withPending rest).status = s.status := rfl
@[simp] theorem withPending_eValue (s : State) (rest : List HostAction) : (s.withPending rest).eValue = s.eValue := rfl
@[simp] theorem withPending_eUnit (s : State) (rest : List HostAction) : (s.withPending rest).eUnit = s.eUnit := rfl
@[simp] theorem withPending_eError (s : State) (rest : List HostAction) : (s.withPending rest).eError = s.eError := rfl
@[simp] theorem withPending_bufD (s : State) (rest : List HostAction) : (s.withPending rest).bufD = s.bufD := rfl
@[simp] theorem withPending_bufE (s : State) (rest : List HostAction) : (s.withPending rest).bufE = s.bufE := rfl
@[simp] theorem withPending_bufB (s : State) (rest : List HostAction) : (s.withPending rest).bufB = s.bufB := rfl
@[simp] theorem withPending_bufW (s : State) (rest : List HostAction) : (s.withPending rest).bufW = s.bufW := rfl
@[simp] theorem withPending_bufS (s : State) (rest : List HostAction) : (s.withPending rest).bufS = s.bufS := rfl
@[simp] theorem withPending_cfg (s : State) (rest : List HostAction) : (s.withPending rest).cfg = s.cfg := rfl
@[simp] theorem withPending_pending (s : State) (rest : List HostAction) : (s.withPending rest).pending = rest := rfl
@[simp] theorem withPending_answers (s : State) (rest : List HostAction) : (s.withPending rest).answers = s.answers := rfl

/-! ### `State.putRc5` -/

@[simp] theorem putRc5_pDevice (s : State) (c : Rc5Code) : (s.putRc5 c).pDevice = BitVec.ofNat 32 c.device := rfl
@[simp] theorem putRc5_pSubdevice (s : State) (c : Rc5Code) : (s.putRc5 c).pSubdevice = s.pSubdevice := rfl
@[simp] theorem putRc5_pFunction (s : State) (c : Rc5Code) : (s.putRc5 c).pFunction = BitVec.ofNat 32 c.function := rfl
@[simp] theorem putRc5_pToggle (s : State) (c : Rc5Code) : (s.putRc5 c).pToggle = BitVec.ofNat 32 c.toggle := rfl
@[simp] theorem putRc5_pMode (s : State) (c : Rc5Code) : (s.putRc5 c).pMode = s.pMode := rfl
@[simp] theorem putRc5_pValue (s : State) (c : Rc5Code) : (s.putRc5 c).pValue = s.pValue := rfl
@[simp] theorem putRc5_pWidth (s : State) (c : Rc5Code) : (s.putRc5 c).pWidth = s.pWidth := rfl
@[simp] theorem putRc5_pCount (s : State) (c : Rc5Code) : (s.putRc5 c).pCount = s.pCount := rfl
@[simp] theorem putRc5_pBlrep (s : State) (c : Rc5Code) : (s.putRc5 c).pBlrep = s.pBlrep := rfl
@[simp] theorem putRc5_pBase (s : State) (c : Rc5Code) : (s.putRc5 c).pBase = s.pBase := rfl
@[simp] theorem putRc5_pN1 (s : State) (c : Rc5Code) : (s.putRc5 c).pN1 = s.pN1 := rfl
@[simp] theorem putRc5_pN2 (s : State) (c : Rc5Code) : (s.putRc5 c).pN2 = s.pN2 := rfl
@[simp] theorem putRc5_qUnit (s : State) (c : Rc5Code) : (s.putRc5 c).qUnit = s.qUnit := rfl
@[simp] theorem putRc5_qTrail (s : State) (c : Rc5Code) : (s.putRc5 c).qTrail = s.qTrail := rfl
@[simp] theorem putRc5_qFreq (s : State) (c : Rc5Code) : (s.putRc5 c).qFreq = s.qFreq := rfl
@[simp] theorem putRc5_status (s : State) (c : Rc5Code) : (s.putRc5 c).status = s.status := rfl
@[simp] theorem putRc5_eValue (s : State) (c : Rc5Code) : (s.putRc5 c).eValue = s.eValue := rfl
@[simp] theorem putRc5_eUnit (s : State) (c : Rc5Code) : (s.putRc5 c).eUnit = s.eUnit := rfl
@[simp] theorem putRc5_eError (s : State) (c : Rc5Code) : (s.putRc5 c).eError = s.eError := rfl
@[simp] theorem putRc5_bufD (s : State) (c : Rc5Code) : (s.putRc5 c).bufD = s.bufD := rfl
@[simp] theorem putRc5_bufE (s : State) (c : Rc5Code) : (s.putRc5 c).bufE = s.bufE := rfl
@[simp] theorem putRc5_bufB (s : State) (c : Rc5Code) : (s.putRc5 c).bufB = s.bufB := rfl
@[simp] theorem putRc5_bufW (s : State) (c : Rc5Code) : (s.putRc5 c).bufW = s.bufW := rfl
@[simp] theorem putRc5_bufS (s : State) (c : Rc5Code) : (s.putRc5 c).bufS = s.bufS := rfl
@[simp] theorem putRc5_cfg (s : State) (c : Rc5Code) : (s.putRc5 c).cfg = s.cfg := rfl
@[simp] theorem putRc5_pending (s : State) (c : Rc5Code) : (s.putRc5 c).pending = s.pending := rfl
@[simp] theorem putRc5_answers (s : State) (c : Rc5Code) : (s.putRc5 c).answers = s.answers := rfl

/-! ### `State.putRc6` -/

@[simp] theorem putRc6_pDevice (s : State) (c : Rc6Code) : (s.putRc6 c).pDevice = BitVec.ofNat 32 c.device := rfl
@[simp] theorem putRc6_pSubdevice (s : State) (c : Rc6Code) : (s.putRc6 c).pSubdevice = s.pSubdevice := rfl
@[simp] theorem putRc6_pFunction (s : State) (c : Rc6Code) : (s.putRc6 c).pFunction = BitVec.ofNat 32 c.function := rfl
@[simp] theorem putRc6_pToggle (s : State) (c : Rc6Code) : (s.putRc6 c).pToggle = BitVec.ofNat 32 c.toggle := rfl
@[simp] theorem putRc6_pMode (s : State) (c : Rc6Code) : (s.putRc6 c).pMode = BitVec.ofNat 32 c.mode := rfl
@[simp] theorem putRc6_pValue (s : State) (c : Rc6Code) : (s.putRc6 c).pValue = s.pValue := rfl
@[simp] theorem putRc6_pWidth (s : State) (c : Rc6Code) : (s.putRc6 c).pWidth = s.pWidth := rfl
@[simp] theorem putRc6_pCount (s : State) (c : Rc6Code) : (s.putRc6 c).pCount = s.pCount := rfl
@[simp] theorem putRc6_pBlrep (s : State) (c : Rc6Code) : (s.putRc6 c).pBlrep = s.pBlrep := rfl
@[simp] theorem putRc6_pBase (s : State) (c : Rc6Code) : (s.putRc6 c).pBase = s.pBase := rfl
@[simp] theorem putRc6_pN1 (s : State) (c : Rc6Code) : (s.putRc6 c).pN1 = s.pN1 := rfl
@[simp] theorem putRc6_pN2 (s : State) (c : Rc6Code) : (s.putRc6 c).pN2 = s.pN2 := rfl
@[simp] theorem putRc6_qUnit (s : State) (c : Rc6Code) : (s.putRc6 c).qUnit = s.qUnit := rfl
@[simp] theorem putRc6_qTrail (s : State) (c : Rc6Code) : (s.putRc6 c).qTrail = s.qTrail := rfl
@[simp] theorem putRc6_qFreq (s : State) (c : Rc6Code) : (s.putRc6 c).qFreq = s.qFreq := rfl
@[simp] theorem putRc6_status (s : State) (c : Rc6Code) : (s.putRc6 c).status = s.status := rfl
@[simp] theorem putRc6_eValue (s : State) (c : Rc6Code) : (s.putRc6 c).eValue = s.eValue := rfl
@[simp] theorem putRc6_eUnit (s : State) (c : Rc6Code) : (s.putRc6 c).eUnit = s.eUnit := rfl
@[simp] theorem putRc6_eError (s : State) (c : Rc6Code) : (s.putRc6 c).eError = s.eError := rfl
@[simp] theorem putRc6_bufD (s : State) (c : Rc6Code) : (s.putRc6 c).bufD = s.bufD := rfl
@[simp] theorem putRc6_bufE (s : State) (c : Rc6Code) : (s.putRc6 c).bufE = s.bufE := rfl
@[simp] theorem putRc6_bufB (s : State) (c : Rc6Code) : (s.putRc6 c).bufB = s.bufB := rfl
@[simp] theorem putRc6_bufW (s : State) (c : Rc6Code) : (s.putRc6 c).bufW = s.bufW := rfl
@[simp] theorem putRc6_bufS (s : State) (c : Rc6Code) : (s.putRc6 c).bufS = s.bufS := rfl
@[simp] theorem putRc6_cfg (s : State) (c : Rc6Code) : (s.putRc6 c).cfg = s.cfg := rfl
@[simp] theorem putRc6_pending (s : State) (c : Rc6Code) : (s.putRc6 c).pending = s.pending := rfl
@[simp] theorem putRc6_answers (s : State) (c : Rc6Code) : (s.putRc6 c).answers = s.answers := rfl

/-! ### `State.putPronto` -/

@[simp] theorem putPronto_pDevice (s : State) (c : ProntoCode) : (s.putPronto c).pDevice = s.pDevice := rfl
@[simp] theorem putPronto_pSubdevice (s : State) (c : ProntoCode) : (s.putPronto c).pSubdevice = s.pSubdevice := rfl
@[simp] theorem putPronto_pFunction (s : State) (c : ProntoCode) : (s.putPronto c).pFunction = s.pFunction := rfl
@[simp] theorem putPronto_pToggle (s : State) (c : ProntoCode) : (s.putPronto c).pToggle = s.pToggle := rfl
@[simp] theorem putPronto_pMode (s : State) (c : ProntoCode) : (s.putPronto c).pMode = s.pMode := rfl
@[simp] theorem putPronto_pValue (s : State) (c : ProntoCode) : (s.putPronto c).pValue = s.pValue := rfl
@[simp] theorem putPronto_pWidth (s : State) (c : ProntoCode) : (s.putPronto c).pWidth = s.pWidth := rfl
@[simp] theorem putPronto_pCount (s : State) (c : ProntoCode) : (s.putPronto c).pCount = s.pCount := rfl
@[simp] theorem putPronto_pBlrep (s : State) (c : ProntoCode) : (s.putPronto c).pBlrep = s.pBlrep := rfl
@[simp] theorem putPronto_pBase (s : State) (c : ProntoCode) : (s.putPronto c).pBase = BitVec.ofNat 32 c.base.toNat := rfl
@[simp] theorem putPronto_pN1 (s : State) (c : ProntoCode) : (s.putPronto c).pN1 = BitVec.ofNat 32 c.n1.toNat := rfl
@[simp] theorem putPronto_pN2 (s : State) (c : ProntoCode) : (s.putPronto c).pN2 = BitVec.ofNat 32 c.n2.toNat := rfl
@[simp] theorem putPronto_qUnit (s : State) (c : ProntoCode) : (s.putPronto c).qUnit = s.qUnit := rfl
@[simp] theorem putPronto_qTrail (s : State) (c : ProntoCode) : (s.putPronto c).qTrail = s.qTrail := rfl
@[simp] theorem putPronto_qFreq (s : State) (c : ProntoCode) : (s.putPronto c).qFreq = 1 / prontoPeriod c.base := rfl
@[simp] theorem putPronto_status (s : State) (c : ProntoCode) : (s.putPronto c).status = s.status := rfl
@[simp] theorem putPronto_eValue (s : State) (c : ProntoCode) : (s.putPronto c).eValue = s.eValue := rfl
@[simp] theorem putPronto_eUnit (s : State) (c : ProntoCode) : (s.putPronto c).eUnit = s.eUnit := rfl
@[simp] theorem putPronto_eError (s : State) (c : ProntoCode) : (s.putPronto c).eError = s.eError := rfl
@[simp] theorem putPronto_bufD (s : State) (c : ProntoCode) : (s.putPronto c).bufD = c.durations := rfl
@[simp] theorem putPronto_bufE (s : State) (c : ProntoCode) : (s.putPronto c).bufE = s.bufE := rfl
@[simp] theorem putPronto_bufB (s : State) (c : ProntoCode) : (s.putPronto c).bufB = s.bufB := rfl
@[simp] theorem putPronto_bufW (s : State) (c : ProntoCode) : (s.putPronto c).bufW = s.bufW := rfl
@[simp] theorem putPronto_bufS (s : State) (c : ProntoCode) : (s.putPronto c).bufS = s.bufS := rfl
@[simp] theorem putPronto_cfg (s : State) (c : ProntoCode) : (s.putPronto c).cfg = s.cfg := rfl
@[simp] theorem putPronto_pending (s : State) (c : ProntoCode) : (s.putPronto c).pending = s.pending := rfl
@[simp] theorem putPronto_answers (s : State) (c : ProntoCode) : (s.putPronto c).answers = s.answers := rfl

/-! ### `State.clear` -/

@[simp] theorem clear_pDevice (s : State) : s.clear.pDevice = 0 := rfl
@[simp] theorem clear_pSubdevice (s : State) : s.clear.pSubdevice = BitVec.ofInt 32 (-1) := rfl
@[simp] theorem clear_pFunction (s : State) : s.clear.pFunction = 0 := rfl
@[simp] theorem clear_pToggle (s : State) : s.clear.pToggle = 0 := rfl
@[simp] theorem clear_pMode (s : State) : s.clear.pMode = 0 := rfl
@[simp] theorem clear_pValue (s : State) : s.clear.pValue = 0 := rfl
@[simp] theorem clear_pWidth (s : State) : s.clear.pWidth = 0 := rfl
@[simp] theorem clear_pCount (s : State) : s.clear.pCount = 0 := rfl
@[simp] theorem clear_pBlrep (s : State) : s.clear.pBlrep = 0 := rfl
@[simp] theorem clear_pBase (s : State) : s.clear.pBase = 0 := rfl
@[simp] theorem clear_pN1 (s : State) : s.clear.pN1 = 0 := rfl
@[simp] theorem clear_pN2 (s : State) : s.clear.pN2 = 0 := rfl
@[simp] theorem clear_qUnit (s : State) : s.clear.qUnit = 0 := rfl
@[simp] theorem clear_qTrail (s : State) : s.clear.qTrail = 0 := rfl
@[simp] theorem clear_qFreq (s : State) : s.clear.qFreq = 0 := rfl
@[simp] theorem clear_status (s : State) : s.clear.status = 0 := rfl
@[simp] theorem clear_eValue (s : State) : s.clear.eValue = 0 := rfl
@[simp] theorem clear_eUnit (s : State) : s.clear.eUnit = 0 := rfl
@[simp] theorem clear_eError (s : State) : s.clear.eError = 0 := rfl
@[simp] theorem clear_bufD (s : State) : s.clear.bufD = [] := rfl
@[simp] theorem clear_bufE (s : State) : s.clear.bufE = [] := rfl
@[simp] theorem clear_bufB (s : State) : s.clear.bufB = [] := rfl
@[simp] theorem clear_bufW (s : State) : s.clear.bufW = [] := rfl
@[simp] theorem clear_bufS (s : State) : s.clear.bufS = [] := rfl
@[simp] theorem clear_cfg (s : State) : s.clear.cfg = s.cfg := rfl
@[simp] theorem clear_pending (s : State) : s.clear.pending = s.pending := rfl
@[simp] theorem clear_answers (s : State) : s.clear.answers = s.answers := rfl

/-! ### `State.putBl` -/

@[simp] theorem putBl_pDevice (s : State) (c : BlCode) : (s.putBl c).pDevice = s.pDevice := by
  unfold State.putBl
  cases c.warning <;> rfl

@[simp] theorem putBl_pSubdevice (s : State) (c : BlCode) : (s.putBl c).pSubdevice = s.pSubdevice := by
  unfold State.putBl
  cases c.warning <;> rfl

@[simp] theorem putBl_pFunction (s : State) (c : BlCode) : (s.putBl c).pFunction = s.pFunction := by
  unfold State.putBl
  cases c.warning <;> rfl

@[simp] theorem putBl_pToggle (s : State) (c : BlCode) : (s.putBl c).pToggle = s.pToggle := by
  unfold State.putBl
  cases c.warning <;> rfl

@[simp] theorem putBl_pMode (s : State) (c : BlCode) : (s.putBl c).pMode = s.pMode := by
  unfold State.putBl
  cases c.warning <;> rfl

@[simp] theorem putBl_pValue (s : State) (c : BlCode) : (s.putBl c).pValue = s.pValue := by
  unfold State.putBl
  cases c.warning <;> rfl

@[simp] theorem putBl_pWidth (s : State) (c : BlCode) : (s.putBl c).pWidth = s.pWidth := by
  unfold State.putBl
  cases c.warning <;> rfl

@[simp] theorem putBl_pCount (s : State) (c : BlCode) : (s.putBl c).pCount = s.pCount := by
  unfold State.putBl
  cases c.warning <;> rfl

@[simp] theorem putBl_pBlrep (s : State) (c : BlCode) : (s.putBl c).pBlrep = BitVec.ofNat 32 c.repeats.toNat := by
  unfold State.putBl
  cases c.warning <;> rfl

@[simp] theorem putBl_pBase (s : State) (c : BlCode) : (s.putBl c).pBase = s.pBase := by
  unfold State.putBl
  cases c.warning <;> rfl

@[simp] theorem putBl_pN1 (s : State) (c : BlCode) : (s.putBl c).pN1 = s.pN1 := by
  unfold State.putBl
  cases c.warning <;> rfl

@[simp] theorem putBl_pN2 (s : State) (c : BlCode) : (s.putBl c).pN2 = s.pN2 := by
  unfold State.putBl
  cases c.warning <;> rfl

@[simp] theorem putBl_qUnit (s : State) (c : BlCode) : (s.putBl c).qUnit = s.qUnit := by
  unfold State.putBl
  cases c.warning <;> rfl

@[simp] theorem putBl_qTrail (s : State) (c : BlCode) : (s.putBl c).qTrail = s.qTrail := by
  unfold State.putBl
  cases c.warning <;> rfl

@[simp] theorem putBl_qFreq (s : State) (c : BlCode) : (s.putBl c).qFreq = s.qFreq := by
  unfold State.putBl
  cases c.warning <;> rfl

@[simp] theorem putBl_status (s : State) (c : BlCode) : (s.putBl c).status = if c.warning then s.status ||| 2#32 else s.status := by
  unfold State.putBl
  cases c.warning <;> rfl

@[simp] theorem putBl_eValue (s : State) (c : BlCode) : (s.putBl c).eValue = s.eValue := by
  unfold State.putBl
  cases c.warning <;> rfl

@[simp] theorem putBl_eUnit (s : State) (c : BlCode) : (s.putBl c).eUnit = s.eUnit := by
  unfold State.putBl
  cases c.warning <;> rfl

@[simp] theorem putBl_eError (s : State) (c : BlCode) : (s.putBl c).eError = s.eError := by
  unfold State.putBl
  cases c.warning <;> rfl

@[simp] theorem putBl_bufD (s : State) (c : BlCode) : (s.putBl c).bufD = c.durations := by
  unfold State.putBl
  cases c.warning <;> rfl

@[simp] theorem putBl_bufE (s : State) (c : BlCode) : (s.putBl c).bufE = s.bufE := by
  unfold State.putBl
  cases c.warning <;> rfl

@[simp] theorem putBl_bufB (s : State) (c : BlCode) : (s.putBl c).bufB = s.bufB := by
  unfold State.putBl
  cases c.warning <;> rfl

@[simp] theorem putBl_bufW (s : State) (c : BlCode) : (s.putBl c).bufW = s.bufW := by
  unfold State.putBl
  cases c.warning <;> rfl

@[simp] theorem putBl_bufS (s : State) (c : BlCode) : (s.putBl c).bufS = s.bufS := by
  unfold State.putBl
  cases c.warning <;> rfl

@[simp] theorem putBl_cfg (s : State) (c : BlCode) : (s.putBl c).cfg = s.cfg := by
  unfold State.putBl
  cases c.warning <;> rfl

@[simp] theorem putBl_pending (s : State) (c : BlCode) : (s.putBl c).pending = s.pending := by
  unfold State.putBl
  cases c.warning <;> rfl

@[simp] theorem putBl_answers (s : State) (c : BlCode) : (s.putBl c).answers = s.answers := by
  unfold State.putBl
  cases c.warning <;> rfl

/-! ### `State.setInt` and `State.setRat`: the fields no parameter register is -/

@[simp] theorem setInt_qUnit (s : State) (r : IntReg) (v : Word) : (s.setInt r v).qUnit = s.qUnit := by
  cases r <;> rfl

@[simp] theorem setInt_qTrail (s : State) (r : IntReg) (v : Word) : (s.setInt r v).qTrail = s.qTrail := by
  cases r <;> rfl

@[simp] theorem setInt_qFreq (s : State) (r : IntReg) (v : Word) : (s.setInt r v).qFreq = s.qFreq := by
  cases r <;> rfl

@[simp] theorem setInt_status (s : State) (r : IntReg) (v : Word) : (s.setInt r v).status = s.status := by
  cases r <;> rfl

@[simp] theorem setInt_eValue (s : State) (r : IntReg) (v : Word) : (s.setInt r v).eValue = s.eValue := by
  cases r <;> rfl

@[simp] theorem setInt_eUnit (s : State) (r : IntReg) (v : Word) : (s.setInt r v).eUnit = s.eUnit := by
  cases r <;> rfl

@[simp] theorem setInt_eError (s : State) (r : IntReg) (v : Word) : (s.setInt r v).eError = s.eError := by
  cases r <;> rfl

@[simp] theorem setInt_bufD (s : State) (r : IntReg) (v : Word) : (s.setInt r v).bufD = s.bufD := by
  cases r <;> rfl

@[simp] theorem setInt_bufE (s : State) (r : IntReg) (v : Word) : (s.setInt r v).bufE = s.bufE := by
  cases r <;> rfl

@[simp] theorem setInt_bufB (s : State) (r : IntReg) (v : Word) : (s.setInt r v).bufB = s.bufB := by
  cases r <;> rfl

@[simp] theorem setInt_bufW (s : State) (r : IntReg) (v : Word) : (s.setInt r v).bufW = s.bufW := by
  cases r <;> rfl

@[simp] theorem setInt_bufS (s : State) (r : IntReg) (v : Word) : (s.setInt r v).bufS = s.bufS := by
  cases r <;> rfl

@[simp] theorem setInt_cfg (s : State) (r : IntReg) (v : Word) : (s.setInt r v).cfg = s.cfg := by
  cases r <;> rfl

@[simp] theorem setInt_pending (s : State) (r : IntReg) (v : Word) : (s.setInt r v).pending = s.pending := by
  cases r <;> rfl

@[simp] theorem setInt_answers (s : State) (r : IntReg) (v : Word) : (s.setInt r v).answers = s.answers := by
  cases r <;> rfl

@[simp] theorem setRat_pDevice (s : State) (r : RatReg) (v : Rat) : (s.setRat r v).pDevice = s.pDevice := by
  cases r <;> rfl

@[simp] theorem setRat_pSubdevice (s : State) (r : RatReg) (v : Rat) : (s.setRat r v).pSubdevice = s.pSubdevice := by
  cases r <;> rfl

@[simp] theorem setRat_pFunction (s : State) (r : RatReg) (v : Rat) : (s.setRat r v).pFunction = s.pFunction := by
  cases r <;> rfl

@[simp] theorem setRat_pToggle (s : State) (r : RatReg) (v : Rat) : (s.setRat r v).pToggle = s.pToggle := by
  cases r <;> rfl

@[simp] theorem setRat_pMode (s : State) (r : RatReg) (v : Rat) : (s.setRat r v).pMode = s.pMode := by
  cases r <;> rfl

@[simp] theorem setRat_pValue (s : State) (r : RatReg) (v : Rat) : (s.setRat r v).pValue = s.pValue := by
  cases r <;> rfl

@[simp] theorem setRat_pWidth (s : State) (r : RatReg) (v : Rat) : (s.setRat r v).pWidth = s.pWidth := by
  cases r <;> rfl

@[simp] theorem setRat_pCount (s : State) (r : RatReg) (v : Rat) : (s.setRat r v).pCount = s.pCount := by
  cases r <;> rfl

@[simp] theorem setRat_pBlrep (s : State) (r : RatReg) (v : Rat) : (s.setRat r v).pBlrep = s.pBlrep := by
  cases r <;> rfl

@[simp] theorem setRat_pBase (s : State) (r : RatReg) (v : Rat) : (s.setRat r v).pBase = s.pBase := by
  cases r <;> rfl

@[simp] theorem setRat_pN1 (s : State) (r : RatReg) (v : Rat) : (s.setRat r v).pN1 = s.pN1 := by
  cases r <;> rfl

@[simp] theorem setRat_pN2 (s : State) (r : RatReg) (v : Rat) : (s.setRat r v).pN2 = s.pN2 := by
  cases r <;> rfl

@[simp] theorem setRat_status (s : State) (r : RatReg) (v : Rat) : (s.setRat r v).status = s.status := by
  cases r <;> rfl

@[simp] theorem setRat_eValue (s : State) (r : RatReg) (v : Rat) : (s.setRat r v).eValue = s.eValue := by
  cases r <;> rfl

@[simp] theorem setRat_eUnit (s : State) (r : RatReg) (v : Rat) : (s.setRat r v).eUnit = s.eUnit := by
  cases r <;> rfl

@[simp] theorem setRat_eError (s : State) (r : RatReg) (v : Rat) : (s.setRat r v).eError = s.eError := by
  cases r <;> rfl

@[simp] theorem setRat_bufD (s : State) (r : RatReg) (v : Rat) : (s.setRat r v).bufD = s.bufD := by
  cases r <;> rfl

@[simp] theorem setRat_bufE (s : State) (r : RatReg) (v : Rat) : (s.setRat r v).bufE = s.bufE := by
  cases r <;> rfl

@[simp] theorem setRat_bufB (s : State) (r : RatReg) (v : Rat) : (s.setRat r v).bufB = s.bufB := by
  cases r <;> rfl

@[simp] theorem setRat_bufW (s : State) (r : RatReg) (v : Rat) : (s.setRat r v).bufW = s.bufW := by
  cases r <;> rfl

@[simp] theorem setRat_bufS (s : State) (r : RatReg) (v : Rat) : (s.setRat r v).bufS = s.bufS := by
  cases r <;> rfl

@[simp] theorem setRat_cfg (s : State) (r : RatReg) (v : Rat) : (s.setRat r v).cfg = s.cfg := by
  cases r <;> rfl

@[simp] theorem setRat_pending (s : State) (r : RatReg) (v : Rat) : (s.setRat r v).pending = s.pending := by
  cases r <;> rfl

@[simp] theorem setRat_answers (s : State) (r : RatReg) (v : Rat) : (s.setRat r v).answers = s.answers := by
  cases r <;> rfl

@[simp] theorem setInt_intReg_same (s : State) (r : IntReg) (v : Word) : (s.setInt r v).intReg r = v := by
  cases r <;> rfl

theorem setInt_intReg_other (s : State) (r q : IntReg) (v : Word) (h : q ≠ r) :
    (s.setInt r v).intReg q = s.intReg q := by
  cases r <;> cases q <;> first | rfl | exact absurd rfl h

@[simp] theorem setInt_ratReg (s : State) (r : IntReg) (v : Word) (q : RatReg) : (s.setInt r v).ratReg q = s.ratReg q := by
  cases r <;> rfl

@[simp] theorem setRat_ratReg_same (s : State) (r : RatReg) (v : Rat) : (s.setRat r v).ratReg r = v := by
  cases r <;> rfl

theorem setRat_ratReg_other (s : State) (r q : RatReg) (v : Rat) (h : q ≠ r) :
    (s.setRat r v).ratReg q = s.ratReg q := by
  cases r <;> cases q <;> first | rfl | exact absurd rfl h

@[simp] theorem setRat_intReg (s : State) (r : RatReg) (v : Rat) (q : IntReg) : (s.setRat r v).intReg q = s.intReg q := by
  cases r <;> rfl

end Sys2Proof.Machine
end

