-- ==== Sys2Proof/Laws/Flags.lean ====
section
/-! SUPPORT. The fields of a `STATUS` word built from its fields, and the flags of an updated state. -/

namespace Sys2Proof.Machine

@[simp] theorem statusFault_statusWord (f w b : Bool) (e : BitVec 3) : statusFault (statusWord f w b e) = f := by
  revert f w b e; decide

@[simp] theorem statusWarn_statusWord (f w b : Bool) (e : BitVec 3) : statusWarn (statusWord f w b e) = w := by
  revert f w b e; decide

@[simp] theorem statusBusy_statusWord (f w b : Bool) (e : BitVec 3) : statusBusy (statusWord f w b e) = b := by
  revert f w b e; decide

@[simp] theorem statusErr_statusWord (f w b : Bool) (e : BitVec 3) : statusErr (statusWord f w b e) = e := by
  revert f w b e; decide

/-- Setting WARN in a word built from its fields. -/
theorem statusWord_or_warn (f w b : Bool) (e : BitVec 3) : statusWord f w b e ||| 2#32 = statusWord f true b e := by
  revert f w b e; decide

theorem statusFault_or_warn (w : Word) : statusFault (w ||| 2#32) = statusFault w := by
  simp [statusFault]

theorem statusWarn_or_warn (w : Word) : statusWarn (w ||| 2#32) = true := by
  simp [statusWarn]

theorem statusBusy_or_warn (w : Word) : statusBusy (w ||| 2#32) = statusBusy w := by
  simp [statusBusy]

theorem statusErr_or_warn (w : Word) : statusErr (w ||| 2#32) = statusErr w := by
  have h : BitVec.extractLsb' 4 3 2#32 = 0#3 := by decide
  simp [statusErr, BitVec.extractLsb'_or, h]

/-- Raising an error enters FAULT (60_exceptions.md R304). -/
@[simp] theorem raise_fault (s : State) (e : Err) : (s.raise e).fault = true := by simp [State.fault]

/-- Raising an error keeps WARN. -/
@[simp] theorem raise_warn (s : State) (e : Err) : (s.raise e).warn = s.warn := by simp [State.warn]

/-- Raising an error keeps BUSY. -/
@[simp] theorem raise_busy (s : State) (e : Err) : (s.raise e).busy = s.busy := by simp [State.busy]

/-- Raising an error records its code. -/
@[simp] theorem raise_err (s : State) (e : Err) : (s.raise e).err = e.code := by simp [State.err]

/-- No kind has code 0. -/
theorem code_ne_zero (e : Err) : e.code ≠ 0 := by cases e <;> simp [Err.code]

/-- No kind has code 7 (60_exceptions.md R300). -/
theorem code_ne_seven (e : Err) : e.code ≠ 7 := by cases e <;> simp [Err.code]

/-- Two states with the same `STATUS` have the same flags. -/
theorem flags_of_status_eq {s t : State} (h : t.status = s.status) :
    t.fault = s.fault ∧ t.warn = s.warn ∧ t.busy = s.busy ∧ t.err = s.err := by
  simp [State.fault, State.warn, State.busy, State.err, h]

@[simp] theorem withPending_fault (s : State) (rest : List HostAction) : (s.withPending rest).fault = s.fault := rfl

@[simp] theorem withPending_warn (s : State) (rest : List HostAction) : (s.withPending rest).warn = s.warn := rfl

@[simp] theorem withPending_busy (s : State) (rest : List HostAction) : (s.withPending rest).busy = s.busy := rfl

@[simp] theorem withPending_err (s : State) (rest : List HostAction) : (s.withPending rest).err = s.err := rfl

@[simp] theorem clear_fault (s : State) : s.clear.fault = false := by
  rw [State.fault, clear_status]; rfl

@[simp] theorem clear_warn (s : State) : s.clear.warn = false := by
  rw [State.warn, clear_status]; rfl

@[simp] theorem clear_busy (s : State) : s.clear.busy = false := by
  rw [State.busy, clear_status]; rfl

@[simp] theorem clear_err (s : State) : s.clear.err = 0 := by
  rw [State.err, clear_status]; rfl

end Sys2Proof.Machine
end

