-- ==== Sys2Proof/Laws/Ops.lean ====
section
/-! SUPPORT. What the shared operations of Machine/Ops.lean can answer, said once. -/

namespace Sys2Proof.Machine

@[simp] theorem fits_none (n : Nat) : fits none n = true := rfl

@[simp] theorem fits_some (c n : Nat) : fits (some c) n = decide (n ≤ c) := rfl

@[simp] theorem fits_zero (cap : Option Nat) : fits cap 0 = true := by cases cap <;> simp

/-- A shorter sequence fits wherever a longer one does. -/
theorem fits_mono {cap : Option Nat} {m n : Nat} (h : m ≤ n) (hn : fits cap n = true) : fits cap m = true := by
  cases cap with
  | none => rfl
  | some c =>
    have : n ≤ c := by simpa using hn
    simpa using Nat.le_trans h this

/-- The capacity test passes the value that fits, and turns no error into another. -/
theorem bounded_cases {β : Type} {cap : Option Nat} {size : β → Nat} {r : Except Err β} :
    (∃ v, r = .ok v ∧ fits cap (size v) = true ∧ bounded cap size r = .ok v)
      ∨ (∃ v, r = .ok v ∧ fits cap (size v) = false ∧ bounded cap size r = .error .overflow)
      ∨ (∃ e, r = .error e ∧ bounded cap size r = .error e) := by
  cases r with
  | error e => exact .inr (.inr ⟨e, rfl, rfl⟩)
  | ok v =>
    cases h : fits cap (size v) with
    | true => exact .inl ⟨v, rfl, h, by simp [bounded, h]⟩
    | false => exact .inr (.inl ⟨v, rfl, h, by simp [bounded, h]⟩)

/-- An unbounded buffer never overflows. -/
@[simp] theorem bounded_none {β : Type} (size : β → Nat) (r : Except Err β) : bounded none size r = r := by
  cases r <;> rfl

/-- A commit makes all the writes of a result, or raises its one error (00_scope.md R12). -/
theorem settle_cases {β : Type} (s : State) (r : Except Err β) (write : β → State) :
    (∃ v, r = .ok v ∧ settle s r write = write v) ∨ (∃ e, r = .error e ∧ settle s r write = s.raise e) := by
  cases r with
  | ok v => exact .inl ⟨v, rfl, rfl⟩
  | error e => exact .inr ⟨e, rfl, rfl⟩

@[simp] theorem settle_ok {β : Type} (s : State) (v : β) (write : β → State) : settle s (.ok v) write = write v := rfl

@[simp] theorem settle_error {β : Type} (s : State) (e : Err) (write : β → State) :
    settle s (.error e) write = s.raise e := rfl

/-- What computing a new `D` can leave. -/
theorem commitD_cases (s : State) (r : Except Err (List Rat)) :
    (∃ xs, r = .ok xs ∧ fits s.cfg.dcap xs.length = true ∧ commitD s r = s.putD xs)
      ∨ (∃ xs, r = .ok xs ∧ fits s.cfg.dcap xs.length = false ∧ commitD s r = s.raise .overflow)
      ∨ (∃ e, r = .error e ∧ commitD s r = s.raise e) := by
  rcases bounded_cases (cap := s.cfg.dcap) (size := List.length) (r := r) with
    ⟨v, hr, hf, hb⟩ | ⟨v, hr, hf, hb⟩ | ⟨e, hr, hb⟩
  · exact .inl ⟨v, hr, hf, by simp [commitD, hb]⟩
  · exact .inr (.inl ⟨v, hr, hf, by simp [commitD, hb]⟩)
  · exact .inr (.inr ⟨e, hr, by simp [commitD, hb]⟩)

/-- What computing a new `W` can leave. -/
theorem commitW_cases (s : State) (r : Except Err (List Half)) :
    (∃ xs, r = .ok xs ∧ fits s.cfg.wcap xs.length = true ∧ commitW s r = s.putW xs)
      ∨ (∃ xs, r = .ok xs ∧ fits s.cfg.wcap xs.length = false ∧ commitW s r = s.raise .overflow)
      ∨ (∃ e, r = .error e ∧ commitW s r = s.raise e) := by
  rcases bounded_cases (cap := s.cfg.wcap) (size := List.length) (r := r) with
    ⟨v, hr, hf, hb⟩ | ⟨v, hr, hf, hb⟩ | ⟨e, hr, hb⟩
  · exact .inl ⟨v, hr, hf, by simp [commitW, hb]⟩
  · exact .inr (.inl ⟨v, hr, hf, by simp [commitW, hb]⟩)
  · exact .inr (.inr ⟨e, hr, by simp [commitW, hb]⟩)

end Sys2Proof.Machine
end

