-- ==== Sys2Proof/Laws/PerInstr.lean ====
section
/-! SUPPORT. The family made per command: the encoding of the command decodes to it. -/

namespace Sys2Proof.Laws

/-- The command's word decodes to the command (30_encoding.md R70 to R73). -/
def RoundTrip.Statement (i : Instr) : Prop := decode (encode i) = .ok i

theorem RoundTrip.reset : RoundTrip.Statement .reset := by unfold RoundTrip.Statement; rfl

theorem RoundTrip.u2b : RoundTrip.Statement .u2b := by unfold RoundTrip.Statement; rfl

theorem RoundTrip.b2u : RoundTrip.Statement .b2u := by unfold RoundTrip.Statement; rfl

theorem RoundTrip.bitify : RoundTrip.Statement .bitify := by unfold RoundTrip.Statement; rfl

theorem RoundTrip.unbitify : RoundTrip.Statement .unbitify := by unfold RoundTrip.Statement; rfl

theorem RoundTrip.simplify : RoundTrip.Statement .simplify := by unfold RoundTrip.Statement; rfl

theorem RoundTrip.paired : RoundTrip.Statement .paired := by unfold RoundTrip.Statement; rfl

theorem RoundTrip.trimL : RoundTrip.Statement .trimL := by unfold RoundTrip.Statement; rfl

theorem RoundTrip.trimT : RoundTrip.Statement .trimT := by unfold RoundTrip.Statement; rfl

theorem RoundTrip.repeatSignal : RoundTrip.Statement .repeatSignal := by unfold RoundTrip.Statement; rfl

theorem RoundTrip.encNec1 : RoundTrip.Statement .encNec1 := by unfold RoundTrip.Statement; rfl

theorem RoundTrip.encNec2 : RoundTrip.Statement .encNec2 := by unfold RoundTrip.Statement; rfl

theorem RoundTrip.encNecx1 : RoundTrip.Statement .encNecx1 := by unfold RoundTrip.Statement; rfl

theorem RoundTrip.encNecx2 : RoundTrip.Statement .encNecx2 := by unfold RoundTrip.Statement; rfl

theorem RoundTrip.encNec1Y1 : RoundTrip.Statement .encNec1Y1 := by unfold RoundTrip.Statement; rfl

theorem RoundTrip.encNec2Y1 : RoundTrip.Statement .encNec2Y1 := by unfold RoundTrip.Statement; rfl

theorem RoundTrip.encNecx1Y1 : RoundTrip.Statement .encNecx1Y1 := by unfold RoundTrip.Statement; rfl

theorem RoundTrip.encNecx2Y1 : RoundTrip.Statement .encNecx2Y1 := by unfold RoundTrip.Statement; rfl

theorem RoundTrip.encNec1Y2 : RoundTrip.Statement .encNec1Y2 := by unfold RoundTrip.Statement; rfl

theorem RoundTrip.encNec2Y2 : RoundTrip.Statement .encNec2Y2 := by unfold RoundTrip.Statement; rfl

theorem RoundTrip.encNecx1Y2 : RoundTrip.Statement .encNecx1Y2 := by unfold RoundTrip.Statement; rfl

theorem RoundTrip.encNecx2Y2 : RoundTrip.Statement .encNecx2Y2 := by unfold RoundTrip.Statement; rfl

theorem RoundTrip.encNec1Y3 : RoundTrip.Statement .encNec1Y3 := by unfold RoundTrip.Statement; rfl

theorem RoundTrip.encNec2Y3 : RoundTrip.Statement .encNec2Y3 := by unfold RoundTrip.Statement; rfl

theorem RoundTrip.encNecx1Y3 : RoundTrip.Statement .encNecx1Y3 := by unfold RoundTrip.Statement; rfl

theorem RoundTrip.encNecx2Y3 : RoundTrip.Statement .encNecx2Y3 := by unfold RoundTrip.Statement; rfl

theorem RoundTrip.encNec1F16 : RoundTrip.Statement .encNec1F16 := by unfold RoundTrip.Statement; rfl

theorem RoundTrip.encNec2F16 : RoundTrip.Statement .encNec2F16 := by unfold RoundTrip.Statement; rfl

theorem RoundTrip.encNecx1F16 : RoundTrip.Statement .encNecx1F16 := by unfold RoundTrip.Statement; rfl

theorem RoundTrip.encNecx2F16 : RoundTrip.Statement .encNecx2F16 := by unfold RoundTrip.Statement; rfl

theorem RoundTrip.encRc5 : RoundTrip.Statement .encRc5 := by unfold RoundTrip.Statement; rfl

theorem RoundTrip.encRc6 : RoundTrip.Statement .encRc6 := by unfold RoundTrip.Statement; rfl

theorem RoundTrip.encRca38 : RoundTrip.Statement .encRca38 := by unfold RoundTrip.Statement; rfl

theorem RoundTrip.decRc5 : RoundTrip.Statement .decRc5 := by unfold RoundTrip.Statement; rfl

theorem RoundTrip.decRc6 : RoundTrip.Statement .decRc6 := by unfold RoundTrip.Statement; rfl

theorem RoundTrip.blEnc : RoundTrip.Statement .blEnc := by unfold RoundTrip.Statement; rfl

theorem RoundTrip.blDec : RoundTrip.Statement .blDec := by unfold RoundTrip.Statement; rfl

theorem RoundTrip.prontoEncDef : RoundTrip.Statement .prontoEncDef := by unfold RoundTrip.Statement; rfl

theorem RoundTrip.prontoEncBase : RoundTrip.Statement .prontoEncBase := by unfold RoundTrip.Statement; rfl

theorem RoundTrip.prontoEncFreq : RoundTrip.Statement .prontoEncFreq := by unfold RoundTrip.Statement; rfl

theorem RoundTrip.prontoDec : RoundTrip.Statement .prontoDec := by unfold RoundTrip.Statement; rfl

end Sys2Proof.Laws
end

