-- ==== Sys2Proof/Laws/Step.lean ====
section
/-! SUPPORT. What a command, a host action and a step can do, said once. -/

namespace Sys2Proof.Machine

/-- Every command answers a next state: an error of the block is a state, not a stop. -/
theorem exec_answers_next (i : Instr) (s : State) : ∃ t, exec i s = .next t := by
  cases i
  case repeatSignal =>
    simp only [exec, execRepeatSignal]
    split
    · exact ⟨_, rfl⟩
    · exact ⟨_, rfl⟩
  all_goals exact ⟨_, rfl⟩

@[simp] theorem step_of_no_pending (s : State) (h : s.pending = []) : step s = .next s := by
  unfold step; rw [h]

theorem step_of_pending {s : State} {a : HostAction} {rest : List HostAction} (h : s.pending = a :: rest) :
    step s = perform a (s.withPending rest) := by
  unfold step; rw [h]

/-- A step that answers a next state had nothing to do, or performed the oldest pending action. -/
theorem step_cases {s t : State} (h : step s = .next t) :
    (s.pending = [] ∧ t = s) ∨ ∃ a rest, s.pending = a :: rest ∧ perform a (s.withPending rest) = .next t := by
  cases hp : s.pending with
  | nil =>
    rw [step_of_no_pending s hp] at h
    exact .inl ⟨rfl, by cases h; rfl⟩
  | cons a rest => exact .inr ⟨a, rest, rfl, by rwa [step_of_pending hp] at h⟩

/-- An action that answers a next state was allowed, and had its effect on an idle block. -/
theorem perform_cases {a : HostAction} {s t : State} (h : perform a s = .next t) :
    (s.busy = false ∨ allowedWhileBusy a = true) ∧ performIdle a s = .next t := by
  unfold perform at h
  split at h
  · cases h
  · rename_i hc
    refine ⟨?_, h⟩
    cases hb : s.busy <;> cases ha : allowedWhileBusy a <;> simp_all

/-- A write of a word to `CMD` resets, is ignored, runs the decoded command, or raises IllegalCommand
(48_system.md R271). -/
theorem command_cases (c : Word) (s : State) :
    (c = encode .reset ∧ command c s = exec .reset s)
      ∨ (c ≠ encode .reset ∧ s.fault = true ∧ command c s = .next s)
      ∨ (c ≠ encode .reset ∧ s.fault = false ∧ ∃ i, decode c = .ok i ∧ command c s = exec i s)
      ∨ (c ≠ encode .reset ∧ s.fault = false ∧ ∃ r, decode c = .error r
        ∧ command c s = .next (s.raise .illegalCommand)) := by
  by_cases hc : c = encode .reset
  · exact .inl ⟨hc, by simp [command, hc]⟩
  · cases hf : s.fault with
    | true => exact .inr (.inl ⟨hc, rfl, by simp [command, hc, hf]⟩)
    | false =>
      cases hd : decode c with
      | ok i => exact .inr (.inr (.inl ⟨hc, rfl, i, rfl, by simp [command, hc, hf, hd]⟩))
      | error r => exact .inr (.inr (.inr ⟨hc, rfl, r, rfl, by simp [command, hc, hf, hd]⟩))

/-- A SET or LOAD that answers a next state was ignored in FAULT, or done. -/
theorem unlessFault_cases {s t : State} {r : Result} (h : unlessFault s r = .next t) :
    (s.fault = true ∧ t = s) ∨ (s.fault = false ∧ r = .next t) := by
  unfold unlessFault at h
  cases hf : s.fault <;> simp_all

/-- A LOAD that answers a next state fits its buffer. -/
theorem load_cases {b : Buf} {cap : Option Nat} {n : Nat} {s t : State} (h : load b cap n s = .next t) :
    fits cap n = true ∧ t = s := by
  unfold load at h
  cases hf : fits cap n <;> simp_all

end Sys2Proof.Machine
end

