-- ==== Sys2Proof/Tests/Slice0.lean ====
section
/-! SUPPORT. Tests on the vectors of 95_test_vectors.md and, after them, for every statement with hypotheses a concrete
state that meets them, each clause at a boundary value where it has one. -/

namespace Sys2Proof.Tests

set_option Elab.async false

open Sys2Proof.Machine Sys2Proof.Claims

/-! ### Command words -/

/-- A word with a reserved bit is refused (R76, V104). -/
theorem test_reserved_bits_refused : reservedClear 0x00010030#32 = false ∧ legalWord 0x00010030#32 = false := by decide

/-- An `OP` outside R71 is refused (V103). -/
theorem test_unknown_op_refused : opKnown 0x34#8 = false ∧ opKnown 0x00#8 = false ∧ legalWord 0x00000034#32 = false := by
  decide

/-- A `MOD` that R72 and R73 do not allow is refused (V104). -/
theorem test_bad_modifier_refused :
    modAllowed 0x22#8 2#8 = false ∧ modAllowed 0x48#8 3#8 = false ∧ modAllowed 0x30#8 20#8 = false
      ∧ modAllowed 0x20#8 1#8 = false ∧ modAllowed 0x01#8 1#8 = false := by decide

/-- An NEC modifier with a bit of 7:5 set is refused (R73). -/
theorem test_nec_modifier_high_bits_refused : necModifierAllowed 0x20#8 = false ∧ necModifierAllowed 0x13#8 = true := by
  decide

/-- Illegal words are refused by the decoder, with the test of R76 they fail (V103, V104). -/
theorem test_illegal_words_refused :
    [0x00000000#32, 0x00000002#32, 0x00000034#32, 0x0000003B#32, 0x00010030#32, 0x00001430#32, 0x00000222#32,
        0x00000348#32, 0x00000120#32, 0x00000101#32].map (fun w => (decode w).toOption) = List.replicate 10 none
      ∧ decode 0x00010030#32 = .error .reservedBits ∧ decode 0x00000034#32 = .error .unknownOp
      ∧ decode 0x00000222#32 = .error .badModifier := by
  refine ⟨?_, rfl, rfl, rfl⟩
  decide

/-- Words written bit by bit from R70 to R73: 16 zero bits, `MOD`, `OP`. -/
theorem test_decode_reset :
    decode 0b00000000000000000000000000000001#32 = .ok .reset := by
  rfl

/-- Words written bit by bit from R70 to R73: 16 zero bits, `MOD`, `OP`. -/
theorem test_decode_primitives :
    decode 0b00000000000000000000000000010000#32 = .ok .u2b
      ∧ decode 0b00000000000000000000000000010001#32 = .ok .b2u
      ∧ decode 0b00000000000000000000000000010010#32 = .ok .bitify
      ∧ decode 0b00000000000000000000000000010011#32 = .ok .unbitify := by
  exact ⟨rfl, rfl, rfl, rfl⟩

/-- Words written bit by bit from R70 to R73: 16 zero bits, `MOD`, `OP`. -/
theorem test_decode_normalizer :
    decode 0b00000000000000000000000000100000#32 = .ok .simplify
      ∧ decode 0b00000000000000000000000000100001#32 = .ok .paired
      ∧ decode 0b00000000000000000000000000100010#32 = .ok .trimL
      ∧ decode 0b00000000000000000000000100100010#32 = .ok .trimT
      ∧ decode 0b00000000000000000000000000100011#32 = .ok .repeatSignal := by
  exact ⟨rfl, rfl, rfl, rfl, rfl⟩

/-- Words written bit by bit from R70 to R73: 16 zero bits, `MOD`, `OP`. -/
theorem test_decode_nec :
    decode 0b00000000000000000000000000110000#32 = .ok .encNec1
      ∧ decode 0b00000000000000000000000100110000#32 = .ok .encNec2
      ∧ decode 0b00000000000000000000001000110000#32 = .ok .encNecx1
      ∧ decode 0b00000000000000000000001100110000#32 = .ok .encNecx2
      ∧ decode 0b00000000000000000000010000110000#32 = .ok .encNec1Y1
      ∧ decode 0b00000000000000000000010100110000#32 = .ok .encNec2Y1
      ∧ decode 0b00000000000000000000011000110000#32 = .ok .encNecx1Y1
      ∧ decode 0b00000000000000000000011100110000#32 = .ok .encNecx2Y1
      ∧ decode 0b00000000000000000000100000110000#32 = .ok .encNec1Y2
      ∧ decode 0b00000000000000000000100100110000#32 = .ok .encNec2Y2
      ∧ decode 0b00000000000000000000101000110000#32 = .ok .encNecx1Y2
      ∧ decode 0b00000000000000000000101100110000#32 = .ok .encNecx2Y2
      ∧ decode 0b00000000000000000000110000110000#32 = .ok .encNec1Y3
      ∧ decode 0b00000000000000000000110100110000#32 = .ok .encNec2Y3
      ∧ decode 0b00000000000000000000111000110000#32 = .ok .encNecx1Y3
      ∧ decode 0b00000000000000000000111100110000#32 = .ok .encNecx2Y3
      ∧ decode 0b00000000000000000001000000110000#32 = .ok .encNec1F16
      ∧ decode 0b00000000000000000001000100110000#32 = .ok .encNec2F16
      ∧ decode 0b00000000000000000001001000110000#32 = .ok .encNecx1F16
      ∧ decode 0b00000000000000000001001100110000#32 = .ok .encNecx2F16 := by
  exact ⟨rfl, rfl, rfl, rfl, rfl, rfl, rfl, rfl, rfl, rfl, rfl, rfl, rfl, rfl, rfl, rfl, rfl, rfl, rfl, rfl⟩

/-- Words written bit by bit from R70 to R73: 16 zero bits, `MOD`, `OP`. -/
theorem test_decode_rc5_rc6_rca38 :
    decode 0b00000000000000000000000000110001#32 = .ok .encRc5
      ∧ decode 0b00000000000000000000000000110010#32 = .ok .encRc6
      ∧ decode 0b00000000000000000000000000110011#32 = .ok .encRca38
      ∧ decode 0b00000000000000000000000000111001#32 = .ok .decRc5
      ∧ decode 0b00000000000000000000000000111010#32 = .ok .decRc6 := by
  exact ⟨rfl, rfl, rfl, rfl, rfl⟩

/-- Words written bit by bit from R70 to R73: 16 zero bits, `MOD`, `OP`. -/
theorem test_decode_broadlink :
    decode 0b00000000000000000000000001000000#32 = .ok .blEnc
      ∧ decode 0b00000000000000000000000001000001#32 = .ok .blDec := by
  exact ⟨rfl, rfl⟩

/-- Words written bit by bit from R70 to R73: 16 zero bits, `MOD`, `OP`. -/
theorem test_decode_pronto :
    decode 0b00000000000000000000000001001000#32 = .ok .prontoEncDef
      ∧ decode 0b00000000000000000000000101001000#32 = .ok .prontoEncBase
      ∧ decode 0b00000000000000000000001001001000#32 = .ok .prontoEncFreq
      ∧ decode 0b00000000000000000000000001001001#32 = .ok .prontoDec := by
  exact ⟨rfl, rfl, rfl, rfl⟩

/-! ### Operations -/

/-- A result that is a next state with the property `p`. -/
def nextHas (r : Result) (p : State → Bool) : Bool :=
  match r with
  | .next t => p t
  | .fault _ => false
  | .refused _ => false

/-- The reset state with a unit length of 1 microsecond for the NEC family, so that `D` shows its ticks. -/
def s0 : State := { State.reset with cfg := { Config.standard with uNec := ⟨0, 0⟩ } }

/-- The reset state with all capacities `n`. -/
def small (n : Nat) : State :=
  { s0 with cfg := { s0.cfg with dcap := some n, ecap := some n, bcap := some n, wcap := some n, scap := some n } }

/-- RESET from a FAULT state with a signal and a warning (V106). -/
theorem test_reset :
    nextHas (exec .reset { s0 with status := 0x63#32, bufD := [1], pBase := 3#32, eValue := 2 })
      (fun t => t.status = 0#32 ∧ t.bufD = [] ∧ t.pBase = 0#32 ∧ t.pSubdevice = 0xFFFFFFFF#32 ∧ t.eValue = 0) = true := by
  decide +kernel

/-- V10 to V12. -/
theorem test_u2b :
    [(5#32, 4#32), (0xFFFFFFFF#32, 8#32), (0xFFFFFFF0#32, 4#32)].map
        (fun p => nextHas (exec .u2b { s0 with pValue := p.1, pWidth := p.2 }) fun t => t.status = 0#32 ∧ t.bufS
          = (if p.1 = 5#32 then [false, true, false, true] else if p.2 = 8#32 then List.replicate 8 true
            else List.replicate 4 false))
      = [true, true, true] := by decide +kernel

/-- V14: the first values refused. -/
theorem test_u2b_domain :
    [(16#32, 4#32), (0xFFFFFFEF#32, 4#32), (1#32, 0#32), (0#32, 32#32), (0#32, 0xFFFFFFFF#32)].all
      (fun p => nextHas (exec .u2b { s0 with pValue := p.1, pWidth := p.2, bufS := [true] }) fun t =>
        t.status = 0x11#32 ∧ t.bufS = [true]) = true := by decide +kernel

/-- V15. -/
theorem test_b2u :
    nextHas (exec .b2u { s0 with bufS := [true, false, true, true] }) (fun t => t.pValue = 11#32) = true
      ∧ nextHas (exec .b2u { s0 with pValue := 9#32 }) (fun t => t.pValue = 0#32) = true := by decide +kernel

/-- V16. -/
theorem test_b2u_domain :
    nextHas (exec .b2u { s0 with bufS := List.replicate 32 false }) (fun t => t.status = 0x11#32) = true := by
  decide +kernel

/-- V17. -/
theorem test_bitify :
    nextHas (exec .bitify { s0 with qUnit := 100, bufD := [200, -100, 0, 10, -310] })
      (fun t => t.bufD = [1, 1, -1, -1, -1, -1] ∧ t.status = 0#32) = true := by decide +kernel

/-- V22. -/
theorem test_bitify_timing :
    nextHas (exec .bitify { s0 with qUnit := 100, bufD := [100, -170] })
      (fun t => t.bufD = [100, -170] ∧ t.status = 0x21#32 ∧ t.eValue = -170 ∧ t.eUnit = 100 ∧ t.eError = 3 / 10)
      = true := by decide +kernel

/-- V24. -/
theorem test_unbitify :
    nextHas (exec .unbitify { s0 with qUnit := 889, bufD := [1, -1, -1, 2] })
      (fun t => t.bufD = [889, -889, -889, 1778]) = true := by decide +kernel

/-- V27. -/
theorem test_simplify_sums_runs :
    nextHas (exec .simplify { s0 with bufD := [1, 2, -3, 0, -4, 5] }) (fun t => t.bufD = [3, -7, 5]) = true := by
  decide +kernel

/-- V29: what stands before the first mark is dropped. -/
theorem test_simplify_drops_leading_silence :
    nextHas (exec .simplify { s0 with bufD := [-1, 0, 2, -2, -2, 0, 3, -1] }) (fun t => t.bufD = [2, -4, 3, -1]) = true := by
  decide +kernel

/-- V5. -/
theorem test_paired_placeholders :
    nextHas (exec .paired { s0 with bufD := [0, -1, -1, 1] }) (fun t => t.bufD = [0, -1, 0, -1, 1, 0]) = true := by
  decide +kernel

/-- V34. -/
theorem test_paired_trailing_silence :
    nextHas (exec .paired { s0 with qTrail := -100, bufD := [1, -1, 1] }) (fun t => t.bufD = [1, -1, 1, -100]) = true := by
  decide +kernel

/-- V35. -/
theorem test_trimL :
    nextHas (exec .trimL { s0 with bufD := [-1, 0, 5, -2, 0] }) (fun t => t.bufD = [5, -2, 0]) = true := by decide +kernel

/-- V35. -/
theorem test_trimT :
    nextHas (exec .trimT { s0 with bufD := [-1, 0, 5, -2, 0] }) (fun t => t.bufD = [-1, 0, 5]) = true := by decide +kernel

/-- V37. -/
theorem test_repeat :
    nextHas (exec .repeatSignal { s0 with pCount := 2#32, bufD := [9, -4, 9] }) (fun t => t.bufD = [9, -4, 9, 9, -4, 9])
      = true := by decide +kernel

/-- V38. -/
theorem test_repeat_unchanged :
    [1#32, 0#32, 0xFFFFFFFD#32].all (fun n =>
      nextHas (exec .repeatSignal { small 1 with pCount := n, bufD := [9, -4] }) fun t => t.bufD = [9, -4] ∧ t.status = 0#32)
      = true := by decide +kernel

/-- V20: the whole frame of ENC.NEC1 for device 4, no subdevice, function 8. -/
theorem test_encNec1_frame :
    nextHas (exec .encNec1 { s0 with pDevice := 4#32, pFunction := 8#32 })
      (fun t => t.bufD = [16, -8,
        1, -1, 1, -1, 1, -3, 1, -1, 1, -1, 1, -1, 1, -1, 1, -1,
        1, -3, 1, -3, 1, -1, 1, -3, 1, -3, 1, -3, 1, -3, 1, -3,
        1, -1, 1, -1, 1, -1, 1, -3, 1, -1, 1, -1, 1, -1, 1, -1,
        1, -3, 1, -3, 1, -3, 1, -1, 1, -3, 1, -3, 1, -3, 1, -3,
        1, -3]) = true := by decide +kernel

/-- The frame of a leader and four bytes, least significant bit first (R83). -/
def necFrameOf (leader : Rat) (bytes : List Nat) : List Rat :=
  [leader, -8] ++ bytes.flatMap (fun b => (List.range 8).flatMap fun k => if b.testBit k then [1, -3] else [1, -1])
    ++ [1, -3]

/-- V51 to V55, and the same registers under the other variants, whose leaders are R145's: device and subdevice 7,
function 0x1A5, fourth byte by suffix. -/
theorem test_nec_all_twenty :
    [(Instr.encNec1, (16 : Rat), 0x5A), (.encNec2, 8, 0x5A), (.encNecx1, 16, 0x5A), (.encNecx2, 8, 0x5A),
      (.encNec1Y1, 16, 0xDA), (.encNec2Y1, 8, 0xDA), (.encNecx1Y1, 16, 0xDA), (.encNecx2Y1, 8, 0xDA),
      (.encNec1Y2, 16, 0x5B), (.encNec2Y2, 8, 0x5B), (.encNecx1Y2, 16, 0x5B), (.encNecx2Y2, 8, 0x5B),
      (.encNec1Y3, 16, 0xDB), (.encNec2Y3, 8, 0xDB), (.encNecx1Y3, 16, 0xDB), (.encNecx2Y3, 8, 0xDB),
      (.encNec1F16, 16, 0x01), (.encNec2F16, 8, 0x01), (.encNecx1F16, 16, 0x01), (.encNecx2F16, 8, 0x01)].all
      (fun p => nextHas (exec p.1 { s0 with pDevice := 7#32, pSubdevice := 7#32, pFunction := 0x1A5#32 }) fun t =>
        t.bufD = necFrameOf p.2.1 [0x07, 0x07, 0xA5, p.2.2]) = true := by decide +kernel

/-- V58, V59: bytes out of range leave `D` as it was. -/
theorem test_nec_domain :
    [(Instr.encNec1, 256#32, 0xFFFFFFFF#32, 0#32), (.encNec1, 0xFFFFFEFF#32, 0xFFFFFFFF#32, 0#32),
      (.encNec1, 0#32, 256#32, 0#32), (.encNec1F16, 0#32, 0xFFFFFFFF#32, 65536#32),
      (.encNec1F16, 0#32, 0xFFFFFFFF#32, 0xFFFEFFFF#32)].all
      (fun p => nextHas
        (exec p.1 { s0 with pDevice := p.2.1, pSubdevice := p.2.2.1, pFunction := p.2.2.2, bufD := [5] }) fun t =>
          t.bufD = [5] ∧ t.status = 0x11#32) = true := by decide +kernel

/-- V60: the high byte of -1 is sent as 0xFF. -/
theorem test_nec_f16_negative :
    nextHas (exec .encNec1F16 { s0 with pFunction := 0xFFFFFFFF#32 })
      (fun t => t.bufD = necFrameOf 16 [0x00, 0xFF, 0xFF, 0xFF]) = true := by decide +kernel

/-- V61, as R160 prints it. -/
theorem test_encRc5 :
    nextHas (exec .encRc5 { s0 with pDevice := 5#32, pFunction := 35#32, pToggle := 1#32 })
      (fun t => t.bufD = [-889, 889, -889, 889, -889, 889, 889, -889, 889, -889, -889, 889, 889, -889, -889, 889, -889,
        889, 889, -889, 889, -889, 889, -889, -889, 889, -889, 889, -88900]) = true := by decide +kernel

/-- V67. -/
theorem test_encRc5_domain :
    nextHas (exec .encRc5 { s0 with pDevice := 32#32 }) (fun t => t.status = 0x11#32) = true
      ∧ nextHas (exec .encRc5 { s0 with pToggle := 2#32 }) (fun t => t.status = 0x11#32) = true := by decide +kernel

/-- V61's simplified frame without its trailing silence. -/
def v61 : List Rat :=
  [889, -889, 889, -889, 1778, -889, 889, -1778, 1778, -1778, 889, -889, 1778, -889, 889, -889, 889, -1778, 889, -889, 889]

/-- V69. -/
theorem test_decRc5 :
    nextHas (exec .decRc5 { s0 with bufD := v61 })
      (fun t => t.pDevice = 5#32 ∧ t.pFunction = 35#32 ∧ t.pToggle = 1#32 ∧ t.bufD = v61) = true := by decide +kernel

/-- The ticks of V72: 25 of them, `+1` and twelve valid pairs, which is R171's count (log 9). -/
def v72Ticks : List Int := [1, -1, 1, 1] ++ (List.replicate 10 [-1, 1]).flatten ++ [-1]

/-- V70, V72, V74, V75. V72 speaks against the count in R171 (log 9): the thirteenth pair is missing, and it is refused. -/
theorem test_decRc5_errors :
    v72Ticks.length = 25 ∧ (∀ j < 12, v72Ticks[1 + 2 * j]? ≠ v72Ticks[2 + 2 * j]?)
      ∧ nextHas (exec .decRc5 { s0 with bufD := v72Ticks.map fun k => (k : Rat) * 889 })
        (fun t => t.status = 0x31#32 ∧ t.pFunction = 0#32) = true
      ∧ nextHas (exec .decRc5 { s0 with bufD := v61.dropLast }) (fun t => t.status = 0x31#32) = true
      ∧ nextHas (exec .decRc5 { s0 with bufD := [889, -1778, 889] }) (fun t => t.status = 0x31#32) = true
      ∧ nextHas (exec .decRc5 { s0 with bufD := [900, -880, 1000] })
        (fun t => t.status = 0x21#32 ∧ t.eValue = 1000 ∧ t.eError = 111 / 889) = true := by decide +kernel

/-- V76, as R180 prints it. -/
theorem test_encRc6 :
    nextHas (exec .encRc6 { s0 with pDevice := 4#32, pFunction := 12#32 })
      (fun t => t.bufD = [2664, -888, 444, -444, -444, 444, -444, 444, -444, 444, -888, 888, -444, 444, -444, 444, -444,
        444, -444, 444, -444, 444, 444, -444, -444, 444, -444, 444, -444, 444, -444, 444, -444, 444, -444, 444, 444, -444,
        444, -444, -444, 444, -444, 444, -2664]) = true := by decide +kernel

/-- One field out of range after another (R180). -/
theorem test_encRc6_domain :
    nextHas (exec .encRc6 { s0 with pMode := 8#32 }) (fun t => t.status = 0x11#32) = true
      ∧ nextHas (exec .encRc6 { s0 with pFunction := 256#32 }) (fun t => t.status = 0x11#32) = true := by decide +kernel

/-- V79's simplified frame: device 27, function 12, toggle 1, mode 6. -/
def v79 : List Rat :=
  [2664, -888, 444, -444, 444, -444, 444, -888, 1332, -1332, 444, -444, 444, -444, 888, -444, 444, -888, 888, -444, 444,
    -888, 444, -444, 444, -444, 444, -444, 888, -444, 444, -888, 444, -444, 444, -2664]

/-- V79. -/
theorem test_decRc6 :
    nextHas (exec .decRc6 { s0 with bufD := v79 })
      (fun t => t.pDevice = 27#32 ∧ t.pFunction = 12#32 ∧ t.pToggle = 1#32 ∧ t.pMode = 6#32) = true := by decide +kernel

/-- V80, V83. -/
theorem test_decRc6_errors :
    nextHas (exec .decRc6 s0) (fun t => t.status = 0x31#32) = true
      ∧ nextHas (exec .decRc6 { s0 with bufD := v79.set 0 2220 }) (fun t => t.status = 0x31#32 ∧ t.pMode = 0#32) = true := by
  decide +kernel

/-- V30, as R200 prints it. -/
def v30 : List Rat :=
  [3680, -3680,
    460, -1840, 460, -1840, 460, -920, 460, -920,
    460, -920, 460, -1840, 460, -1840, 460, -1840, 460, -1840, 460, -920, 460, -1840, 460, -1840,
    460, -920, 460, -920, 460, -1840, 460, -1840,
    460, -1840, 460, -920, 460, -920, 460, -920, 460, -920, 460, -1840, 460, -920, 460, -920,
    460, -7360]

/-- V30. -/
theorem test_encRca38 :
    nextHas (exec .encRca38 { s0 with pDevice := 12#32, pFunction := 123#32 }) (fun t => t.bufD = v30) = true := by
  decide +kernel

/-- V86. -/
theorem test_encRca38_domain :
    nextHas (exec .encRca38 { s0 with pDevice := 16#32 }) (fun t => t.status = 0x11#32) = true
      ∧ nextHas (exec .encRca38 { s0 with pFunction := 256#32 }) (fun t => t.status = 0x11#32) = true := by decide +kernel

/-- V40. -/
theorem test_blEnc :
    nextHas (exec .blEnc { s0 with pBlrep := 2#32, bufD := [9000, -4500, 560] })
      (fun t => t.bufB = [0x26#8, 0x02#8, 0x08#8, 0x00#8, 0x00#8, 0x01#8, 0x28#8, 0x94#8, 0x12#8, 0x00#8, 0x0D#8, 0x05#8])
      = true := by decide +kernel

/-- V45: the tie 134.5 goes to the even 134, a second entry of 33, and 1995788 microseconds are too many. -/
theorem test_blEnc_magnitudes :
    nextHas (exec .blEnc { s0 with bufD := [4096, -1000] })
        (fun t => t.bufB = [0x26#8, 0x00#8, 0x02#8, 0x00#8, 0x86#8, 0x21#8] ++ List.replicate 6 0x00#8) = true
      ∧ nextHas (exec .blEnc { s0 with bufD := [1995788, -1000] }) (fun t => t.status = 0x11#32 ∧ t.bufB = []) = true := by
  decide +kernel

/-- V47: a non-zero byte after the payload sets WARN. -/
theorem test_blDec_warning :
    nextHas (exec .blDec { s0 with bufB := [0x26#8, 0x00#8, 0x02#8, 0x00#8, 0x10#8, 0x20#8, 0x00#8, 0x00#8, 0x00#8, 0x00#8,
        0x00#8, 0x01#8] }) (fun t => t.bufD = [487, -975] ∧ t.status = 2#32) = true := by decide +kernel

/-- V49: an escape cut by the end of the payload. -/
theorem test_blDec_format :
    nextHas (exec .blDec { s0 with bufB := [0x26#8, 0x07#8, 0x02#8, 0x00#8, 0x00#8, 0x01#8, 0x02#8] })
      (fun t => t.status = 0x41#32 ∧ t.pBlrep = 0#32) = true := by decide +kernel

/-- `D0` of 95_test_vectors.md 2.9. -/
def d0 : List Rat := [9024, -4512, 564, -564, 564, -1692, 564]

/-- V88. -/
theorem test_prontoEncDef :
    nextHas (exec .prontoEncDef { s0 with bufD := d0 })
      (fun t => t.bufW = [0x0000#16, 0x0067#16, 0x0004#16, 0x0000#16, 0x0168#16, 0x00B4#16, 0x0016#16, 0x0016#16, 0x0016#16,
        0x0043#16, 0x0016#16, 0x0000#16]) = true := by decide +kernel

/-- V95: a count of 65536. -/
theorem test_prontoEncDef_domain :
    nextHas (exec .prontoEncDef { s0 with bufD := [1638400, -10] }) (fun t => t.status = 0x11#32 ∧ t.bufW = []) = true := by
  decide +kernel

/-- V91. -/
theorem test_prontoEncBase :
    nextHas (exec .prontoEncBase { s0 with pBase := 109#32, bufD := d0, bufE := [564, -96000] })
      (fun t => t.bufW = [0x0000#16, 0x006D#16, 0x0004#16, 0x0001#16, 0x0157#16, 0x00AB#16, 0x0015#16, 0x0015#16, 0x0015#16,
        0x0040#16, 0x0015#16, 0x0000#16, 0x0015#16, 0x0E42#16]) = true := by decide +kernel

/-- V90. -/
theorem test_prontoEncFreq :
    nextHas (exec .prontoEncFreq { s0 with qFreq := 19 / 500, bufD := d0 })
      (fun t => t.bufW = [0x0000#16, 0x006D#16, 0x0004#16, 0x0000#16, 0x0156#16, 0x00AB#16, 0x0015#16, 0x0015#16, 0x0015#16,
        0x0040#16, 0x0015#16, 0x0000#16]) = true := by decide +kernel

/-- V96: clocks out of range. -/
theorem test_pronto_clock_domain :
    nextHas (exec .prontoEncBase { s0 with pBase := 65536#32 }) (fun t => t.status = 0x11#32) = true
      ∧ nextHas (exec .prontoEncFreq { s0 with qFreq := 5 }) (fun t => t.status = 0x11#32) = true
      ∧ nextHas (exec .prontoEncFreq { s0 with qFreq := 1 / 100000 }) (fun t => t.status = 0x11#32) = true := by
  decide +kernel

/-- V98: the tie 180934.5 goes to the even tenth. -/
theorem test_prontoDec :
    nextHas (exec .prontoDec { s0 with bufW := [0x0000#16, 0x61A8#16, 0x0001#16, 0x0000#16, 0x0001#16, 0x0003#16] })
      (fun t => t.bufD = [60312 / 10, -(180934 / 10)] ∧ t.pBase = 25000#32 ∧ t.pN1 = 1#32 ∧ t.pN2 = 0#32
        ∧ t.qFreq = 20 / 120623) = true := by decide +kernel

/-- V101. -/
theorem test_prontoDec_format :
    [[0x0001#16, 0x006D#16, 0#16, 0#16], [0#16, 0x006D#16, 1#16], [0#16, 0#16, 0#16, 0#16],
      [0#16, 0x006D#16, 1#16, 0#16, 5#16], []].all
      (fun ws => nextHas (exec .prontoDec { s0 with bufW := ws }) fun t => t.status = 0x41#32 ∧ t.pBase = 0#32) = true := by
  decide +kernel

/-- V105, V107: in FAULT a command and an illegal word are ignored. -/
theorem test_fault_ignores_commands :
    [0x00000020#32, 0x00000000#32].all (fun c =>
      nextHas (step { s0 with status := 0x21#32, bufD := [-1, 5], pending := [.cmd c] }) fun t =>
        t.status = 0x21#32 ∧ t.bufD = [-1, 5] ∧ t.pending = []) = true := by decide +kernel

/-- V103: an illegal word raises IllegalCommand. -/
theorem test_illegal_command :
    nextHas (step { s0 with pending := [.cmd 0x00000034#32] }) (fun t => t.status = 0x51#32 ∧ t.eValue = 0) = true := by
  decide +kernel

/-! ### States that meet the statements' hypotheses -/

/-- The reset state in FAULT with DomainError, with one action pending. -/
def faultWith (a : HostAction) : State := { s0 with status := 0x11#32, pending := [a] }

/-- The reset state with one action pending. -/
def idleWith (a : HostAction) : State := { s0 with pending := [a] }

/-- The signal of P3, which BITIFY refuses. -/
def badSignal : State := { s0 with qUnit := 100, bufD := [100, -170] }

theorem witness_ResetIsAcceptedInEveryState :
    (faultWith (.cmd 0x00000001#32)).busy = false
      ∧ (faultWith (.cmd 0x00000001#32)).pending = .cmd 0x00000001#32 :: []
      ∧ ({ faultWith .hardwareReset with status := 4#32 } : State).pending = .hardwareReset :: [] := by decide +kernel

theorem witness_StepRunsTheDecodedCommand :
    (∀ a ∈ [HostAction.cmd 0x00000001#32, .cmd 0x00000020#32, .cmd 0x00000000#32],
        (faultWith a).busy = false ∧ (faultWith a).pending = a :: [] ∧ (faultWith a).fault = true)
      ∧ (∀ a ∈ [HostAction.cmd 0x00000001#32, .cmd 0x00000049#32, .cmd 0x00001330#32, .cmd 0x00001430#32,
          .cmd 0x00010030#32],
        (idleWith a).busy = false ∧ (idleWith a).pending = a :: [] ∧ (idleWith a).fault = false)
      ∧ (decode 0x00000049#32).toOption = some .prontoDec ∧ (decode 0x00001330#32).toOption = some .encNecx2F16
      ∧ legalWord 0x00001430#32 = false ∧ legalWord 0x00010030#32 = false := by decide +kernel

theorem witness_EveryStepKeepsSafe :
    Safe { badSignal with pending := [.cmd 0x00000012#32] }
      ∧ nextHas (step { badSignal with pending := [.cmd 0x00000012#32] })
        (fun t => t.status = 0x21#32 ∧ t.eError = 3 / 10) = true := by
  decide +kernel

theorem witness_NoStepChangesTheConfiguration :
    nextHas (step (idleWith (.cmd 0x00000001#32))) (fun t => t.pending = []) = true := by decide +kernel

theorem witness_AnErrorCommitsNothing :
    badSignal.fault = false ∧ nextHas (exec .bitify badSignal) (fun t => t.fault) = true
      ∧ nextHas (exec .prontoDec s0) (fun t => t.fault) = true := by decide +kernel

theorem witness_OnlyAResetLeavesTheFaultState :
    (faultWith (.cmd 0x00000001#32)).fault = true
      ∧ nextHas (step (faultWith (.cmd 0x00000001#32))) (fun t => !t.fault) = true
      ∧ nextHas (step (faultWith .hardwareReset)) (fun t => !t.fault) = true := by decide +kernel

theorem witness_FaultStateIgnoresCommandsAndHostWrites :
    ∀ a ∈ [HostAction.cmd 0x00000000#32, .cmd 0xFFFFFFFF#32, .setInt .device 1#32, .setRat .unit 7, .loadD [1], .loadE [1],
        .loadB [1#8], .loadW [1#16], .loadS [true], .get .status, .read .bufD],
      (faultWith a).busy = false ∧ (faultWith a).fault = true ∧ (faultWith a).pending = a :: [] := by decide +kernel

theorem witness_HostReadsAnswerAndChangeNothing :
    s0.busy = false ∧ (∀ r ∈ [Reg.int .device, .int .n2, .rat .unit, .rat .freq, .status, .eValue, .eUnit, .eError, .cmd,
        .length .bufD, .length .bufS], (idleWith (.get r)).busy = false ∧ (idleWith (.get r)).pending = .get r :: [])
      ∧ (∀ b ∈ [Buf.bufD, .bufE, .bufB, .bufW, .bufS],
        (idleWith (.read b)).busy = false ∧ (idleWith (.read b)).pending = .read b :: []) := by decide +kernel

theorem witness_HostSetWritesOneRegister :
    ∀ a ∈ [HostAction.setInt .device 0x80000000#32, .setInt .n2 0x7FFFFFFF#32, .setRat .unit (-1 / 3), .setRat .freq 0],
      (idleWith a).busy = false ∧ (idleWith a).fault = false ∧ (idleWith a).pending = a :: [] := by decide +kernel

theorem witness_HostLoadReplacesTheWholeBuffer :
    (∀ a ∈ [HostAction.loadD [1, -2], .loadE [1, 0], .loadB [0#8, 255#8], .loadW [0#16, 65535#16], .loadS [true, false]],
        ({ small 2 with pending := [a] } : State).busy = false ∧ ({ small 2 with pending := [a] } : State).fault = false
          ∧ ({ small 2 with pending := [a] } : State).pending = a :: [])
      ∧ room (small 2).cfg.dcap 2 = true ∧ room (small 2).cfg.ecap 2 = true ∧ room (small 2).cfg.bcap 2 = true
      ∧ room (small 2).cfg.wcap 2 = true ∧ room (small 2).cfg.scap 2 = true := by decide +kernel

theorem witness_WithNothingPendingNothingChanges : State.reset.pending = [] := rfl

theorem witness_ActionsOutsideTheModelAreRefused :
    ({ idleWith (.get .eValue) with status := 4#32 } : State).busy = true
      ∧ ({ idleWith (.get .eValue) with status := 4#32 } : State).pending = .get .eValue :: []
      ∧ HostAction.get .eValue ≠ .get .status ∧ HostAction.get .eValue ≠ .hardwareReset
      ∧ (∀ a ∈ [HostAction.loadD [1, 2], .loadE [1, 2], .loadB [1#8, 2#8], .loadW [1#16, 2#16], .loadS [true, false]],
        ({ small 1 with pending := [a] } : State).busy = false ∧ ({ small 1 with pending := [a] } : State).fault = false
          ∧ ({ small 1 with pending := [a] } : State).pending = a :: [])
      ∧ room (small 1).cfg.dcap 2 = false ∧ room (small 1).cfg.ecap 2 = false ∧ room (small 1).cfg.bcap 2 = false
      ∧ room (small 1).cfg.wcap 2 = false ∧ room (small 1).cfg.scap 2 = false := by decide +kernel

/-- A stream of no entries with one non-zero byte after it. -/
def warnStream : State := { idleWith (.cmd 0x00000041#32) with bufB := [0x26#8, 0#8, 0#8, 0#8, 1#8] }

theorem witness_OnlyBlDecSetsAndOnlyResetClearsTheWarning :
    ({ idleWith .hardwareReset with status := 2#32 } : State).warn = true
      ∧ nextHas (step { idleWith .hardwareReset with status := 2#32 }) (fun t => !t.warn) = true
      ∧ warnStream.warn = false ∧ nextHas (step warnStream) (fun t => t.warn) = true := by decide +kernel

theorem witness_OverflowNeedsAFiniteCapacity :
    s0.cfg.dcap = none ∧ s0.cfg.ecap = none ∧ s0.cfg.bcap = none ∧ s0.cfg.wcap = none ∧ s0.cfg.scap = none ∧ s0.err ≠ 6
      ∧ nextHas (exec .encRc5 s0) (fun t => t.bufD.length = 29) = true := by decide +kernel

theorem witness_RoundingIsToTheNearestWithTheConfiguredTie :
    |(5 / 2 : Rat) - ((2 : Int) : Rat)| = 1 / 2 ∧ |(-5 / 2 : Rat) - ((-3 : Int) : Rat)| = 1 / 2 ∧ (0 : Rat) ≤ 0 := by
  norm_num [abs_of_pos, abs_of_nonneg]

theorem witness_U2bWritesTheBitsOfTheValue :
    (∀ p ∈ [((0 : Int), (0 : Nat)), (-1, 0), (2147483647, 31), (-2147483648, 31)],
        ((s0.setInt .value (BitVec.ofInt 32 p.1)).setInt .width (BitVec.ofNat 32 p.2)).pValue.toInt = p.1
          ∧ ((s0.setInt .value (BitVec.ofInt 32 p.1)).setInt .width (BitVec.ofNat 32 p.2)).pWidth.toInt = (p.2 : Int)
          ∧ p.2 ≤ 31 ∧ fieldRange p.1 p.2)
      ∧ room s0.cfg.scap 31 = true ∧ room (small 30).cfg.scap 31 = false
      ∧ (0xFFFFFFFF#32 : Word).toInt < 0 ∧ 31 < (32#32 : Word).toInt
      ∧ ¬ fieldRange (16#32 : Word).toInt (4#32 : Word).toInt.toNat
      ∧ ¬ fieldRange (0xFFFFFFEF#32 : Word).toInt (4#32 : Word).toInt.toNat := by
  unfold fieldRange; decide +kernel

theorem witness_B2uReadsTheValueOfTheString :
    ({ s0 with bufS := List.replicate 31 true } : State).bufS.length ≤ 31 ∧ s0.bufS.length ≤ 31
      ∧ 31 < ({ s0 with bufS := List.replicate 32 true } : State).bufS.length := by decide +kernel

theorem witness_U2bAndB2uAreInverse :
    ((31 : Nat) ≤ 31 ∧ (0 : Int) ≤ 2147483647 ∧ (2147483647 : Int) ≤ 2 ^ 31 - 1)
      ∧ ((0 : Nat) ≤ 31 ∧ -2 ^ 0 ≤ (-1 : Int) ∧ (-1 : Int) ≤ -1) ∧ (-2 ^ 31 ≤ (-2147483648 : Int))
      ∧ (List.replicate 31 true).length ≤ 31 := by decide

/-- Every Duration of the second signal of V6 is a multiple of the unit, and 90 and 110 are just within tolerance. -/
theorem witness_quantizes : Quantizes 100 [100, 200] [1, 2] ∧ Quantizes 100 [-110, 90, 0, 10] [1, 1, 0, 0] := by
  unfold Quantizes offBy
  norm_num [abs_of_pos, abs_of_neg]

/-- -170 is the first Duration of V22's signal that is off every multiple of 100 by more than 10. -/
theorem witness_firstOffending : FirstOffending 100 [100, -170] (-170) (3 / 10) := by
  refine ⟨[100], [], [1], 2, rfl, ?_, ?_, ?_, ?_⟩
  · unfold Quantizes offBy
    norm_num
  · intro m
    unfold offBy
    rw [lt_abs]
    rcases Nat.lt_or_ge m 2 with h | h
    · left
      have h' : (m : Rat) ≤ 1 := by exact_mod_cast Nat.lt_succ_iff.mp h
      norm_num
      linarith
    · right
      have h' : (2 : Rat) ≤ m := by exact_mod_cast h
      norm_num
      linarith
  · intro m
    unfold offBy
    have e : |(|(-170 : Rat)| - ((2 : Nat) : Rat) * 100)| = 30 := by norm_num [abs_of_neg]
    rw [e, le_abs]
    rcases Nat.lt_or_ge m 2 with h | h
    · left
      have h' : (m : Rat) ≤ 1 := by exact_mod_cast Nat.lt_succ_iff.mp h
      norm_num
      linarith
    · right
      have h' : (2 : Rat) ≤ m := by exact_mod_cast h
      norm_num
      linarith
  · unfold offBy
    norm_num [abs_of_neg]

theorem witness_BitifyQuantizesTheSignal :
    s0.qUnit ≤ 0 ∧ 0 < badSignal.qUnit ∧ Quantizes badSignal.qUnit ({ badSignal with bufD := [100, 200] } : State).bufD [1, 2]
      ∧ room badSignal.cfg.dcap ([1, 2] : List Nat).sum = true ∧ room (small 2).cfg.dcap ([1, 2] : List Nat).sum = false
      ∧ FirstOffending badSignal.qUnit badSignal.bufD (-170) (3 / 10) := by
  refine ⟨by decide +kernel, by decide +kernel, witness_quantizes.1, by decide, by decide, witness_firstOffending⟩

/-- A signal already simplified whose one Duration is half a unit off. -/
theorem witness_firstOffending_half (u : Rat) (hu : 0 < u) : FirstOffending u [u / 2] (u / 2) (1 / 2) := by
  have hpos : |u / 2| = u / 2 := abs_of_pos (half_pos hu)
  have key : ∀ m : Nat, u / 2 ≤ |u / 2 - (m : Rat) * u| := by
    intro m
    rw [le_abs]
    rcases Nat.eq_zero_or_pos m with h | h
    · left; subst h; norm_num
    · right
      have h' : (1 : Rat) ≤ m := by exact_mod_cast h
      nlinarith
  refine ⟨[], [], [], 0, rfl, List.Forall₂.nil, ?_, ?_, ?_⟩
  · intro m
    unfold offBy
    rw [hpos]
    linarith [key m]
  · intro m
    unfold offBy
    rw [hpos]
    simpa [abs_of_pos (half_pos hu), hu.le] using key m
  · unfold offBy
    rw [hpos]
    simp only [Nat.cast_zero, zero_mul, sub_zero]
    rw [hpos]
    field_simp

theorem witness_TimingErrorRecordsDurationUnitAndError :
    0 < badSignal.qUnit ∧ FirstOffending badSignal.qUnit badSignal.bufD (-170) (3 / 10)
      ∧ FirstOffending 889 (simplify ({ s0 with bufD := [889 / 2] } : State).bufD) (889 / 2) (1 / 2)
      ∧ FirstOffending 444 (simplify ({ s0 with bufD := [444 / 2] } : State).bufD) (444 / 2) (1 / 2) := by
  have h5 : simplify ({ s0 with bufD := [889 / 2] } : State).bufD = [889 / 2] := by decide +kernel
  have h6 : simplify ({ s0 with bufD := [444 / 2] } : State).bufD = [444 / 2] := by decide +kernel
  rw [h5, h6]
  exact ⟨by decide +kernel, witness_firstOffending, witness_firstOffending_half 889 (by norm_num),
    witness_firstOffending_half 444 (by norm_num)⟩

theorem witness_QuantizerDoesNotDependOnTheTieRule :
    (0 : Rat) < 100 ∧ |(50 : Rat)| / 100 = ((0 : Nat) : Rat) + 1 / 2 ∧ |(-250 : Rat)| / 100 = ((2 : Nat) : Rat) + 1 / 2 := by
  norm_num [abs_of_neg]

theorem witness_BitifyInvertsUnbitifyUnitByUnit :
    (0 : Rat) < 889 ∧ Quantizes 100 [100, 200] [1, 2]
      ∧ (bitify .halfEven [100, 200] 100).toOption = some [1, 1, 1] := by
  refine ⟨by norm_num, witness_quantizes.1, by decide +kernel⟩

theorem witness_SimplifySumsEachRun :
    ({ s0 with bufD := [-1, 0, 2, -2, -2, 0] } : State).bufD = [-1, 0] ++ ([[2], [-2, -2, 0]] : List (List Rat)).flatten
      ∧ (∀ x ∈ ([-1, 0] : List Rat), x ≤ 0)
      ∧ (∀ k run, ([[2], [-2, -2, 0]] : List (List Rat))[k]? = some run → IsRun k run) := by
  refine ⟨by decide +kernel, by decide +kernel, ?_⟩
  intro k run h
  match k, h with
  | 0, h => cases h; unfold IsRun; decide +kernel
  | 1, h => cases h; unfold IsRun; decide +kernel
  | n + 2, h => simp at h

theorem witness_normalized : Normalized [5, -3, 1] := by
  refine ⟨by decide +kernel, ?_, by decide +kernel⟩
  intro x h
  cases h
  decide +kernel

theorem witness_PairedWritesMarkSpacePairs :
    room (small 4).cfg.dcap (pairUp (-7) [5, 6]).length = true ∧ room (small 3).cfg.dcap (pairUp (-7) [5, 6]).length = false
      ∧ Normalized ({ small 4 with bufD := [5, -3, 1] } : State).bufD
      ∧ room (small 4).cfg.dcap (([5, -3, 1] : List Rat).length + 1) = true := by
  refine ⟨by decide +kernel, by decide +kernel, witness_normalized, by decide +kernel⟩

theorem witness_PairedResultAlternates : s0.qTrail ≤ 0 ∧ (-7 : Rat) ≤ 0 ∧ paired [-3, -4] 0 = [0, -3, 0, -4] := by
  decide +kernel

theorem witness_TrimLeadingRemovesTheLongestSilentPrefix :
    ({ s0 with bufD := [-5, 0, -1, 7, -2] } : State).bufD = [-5, 0, -1] ++ [7, -2]
      ∧ (∀ x ∈ ([-5, 0, -1] : List Rat), x ≤ 0) ∧ (∀ x, ([7, -2] : List Rat).head? = some x → 0 < x) := by
  refine ⟨by decide +kernel, by decide +kernel, ?_⟩
  intro x h
  cases h
  decide +kernel

theorem witness_TrimTrailingRemovesTheLongestSilentSuffix :
    ({ s0 with bufD := [7, -2, 0, -1] } : State).bufD = [7] ++ [-2, 0, -1] ∧ (∀ x ∈ ([-2, 0, -1] : List Rat), x ≤ 0)
      ∧ (∀ x, ([7] : List Rat).getLast? = some x → 0 < x) := by
  refine ⟨by decide +kernel, by decide +kernel, ?_⟩
  intro x h
  cases h
  decide +kernel

theorem witness_RepeatConcatenatesCopies :
    ({ s0 with pCount := 1#32 } : State).pCount.toInt ≤ 1 ∧ ({ s0 with pCount := 0x80000000#32 } : State).pCount.toInt ≤ 1
      ∧ ({ s0 with pCount := 2#32 } : State).pCount.toInt = ((2 : Nat) : Int)
      ∧ room (small 4).cfg.dcap (2 * ([9, -4] : List Rat).length) = true
      ∧ room (small 3).cfg.dcap (2 * ([9, -4] : List Rat).length) = false := by decide +kernel

/-- The boundary operands of the NEC encoders, for F16 and for a suffix that never refuses the function. -/
theorem witness_NecEncodersWriteTheirFrame :
    (∀ p ∈ [((-256 : Int), (-2147483648 : Int), (-65536 : Int)), (255, 255, 65535)], NecAccepts .f16 p.1 p.2.1 p.2.2)
      ∧ NecAccepts .y2 255 255 2147483647 ∧ room (small 68).cfg.dcap 68 = true := by
  unfold NecAccepts fieldRange; decide +kernel

theorem witness_NecEncodersRefuseBytesOutOfRange :
    ¬ NecAccepts .standard 256 (-1) 0 ∧ ¬ NecAccepts .y1 (-257) (-1) 0 ∧ ¬ NecAccepts .y3 0 256 0
      ∧ ¬ NecAccepts .f16 0 (-1) 65536 ∧ ¬ NecAccepts .f16 0 (-1) (-65537)
      ∧ NecAccepts .standard 0 (-1) 65536 ∧ room (small 67).cfg.dcap 68 = false := by
  unfold NecAccepts fieldRange; decide +kernel

theorem witness_NecVariantsDifferInTheLeaderOnly :
    (small 68).cfg.necLeader = { nec1 := 16, nec2 := 8, necx1 := 16, necx2 := 8 }
      ∧ NecAccepts .f16 255 255 65535 ∧ room (small 68).cfg.dcap 68 = true
      ∧ ¬ (NecAccepts .f16 255 255 65536 ∧ room (small 68).cfg.dcap 68 = true)
      ∧ ¬ (NecAccepts .f16 255 255 65535 ∧ room (small 67).cfg.dcap 68 = true) := by
  unfold NecAccepts fieldRange; decide +kernel

theorem witness_NecFrameIsNormalized :
    NecAccepts .standard s0.pDevice.toInt s0.pSubdevice.toInt s0.pFunction.toInt ∧ room s0.cfg.dcap 68 = true
      ∧ 0 < leaderUnits s0.cfg.necLeader .necx2 := by
  unfold NecAccepts fieldRange; decide +kernel

theorem witness_EncRc5WritesItsFrame :
    Rc5Accepts 31 1 ∧ Rc5Accepts (-32) (-2) ∧ ¬ Rc5Accepts 32 0 ∧ ¬ Rc5Accepts 0 2 ∧ ¬ Rc5Accepts (-33) 0
      ∧ ¬ Rc5Accepts 0 (-3) ∧ room (small 29).cfg.dcap 29 = true ∧ room (small 28).cfg.dcap 29 = false := by
  unfold Rc5Accepts fieldRange; decide +kernel

/-- The ticks of V61, of its frame cut by two entries, and of nothing. -/
theorem witness_DecRc5ReadsTheFrame :
    (bitify s0.cfg.roundTie (simplify v61) 889).toOption = some ((v61.map fun x => List.replicate
        (if x = 889 ∨ x = -889 then 1 else 2) (if 0 < x then (1 : Int) else -1)).flatten)
      ∧ Rc5Shape ((v61.map fun x => List.replicate
        (if x = 889 ∨ x = -889 then 1 else 2) (if 0 < x then (1 : Int) else -1)).flatten)
      ∧ (bitify s0.cfg.roundTie (simplify ([] : List Rat)) 889).toOption = some [] ∧ ¬ Rc5Shape []
      ∧ (bitify s0.cfg.roundTie (simplify [900, -880, 1000]) 889).toOption = none := by
  unfold Rc5Shape tickAt; decide +kernel

theorem witness_Rc5RoundTrip :
    ∀ s ∈ [s0, { small 29 with pDevice := 31#32, pFunction := 127#32, pToggle := 1#32 }],
      0 ≤ s.pDevice.toInt ∧ s.pDevice.toInt ≤ 31 ∧ 0 ≤ s.pFunction.toInt ∧ s.pFunction.toInt ≤ 127 ∧ 0 ≤ s.pToggle.toInt
        ∧ s.pToggle.toInt ≤ 1 ∧ room s.cfg.dcap 29 = true := by decide +kernel

theorem witness_EncRc6WritesItsFrame :
    Rc6Accepts 255 255 1 7 ∧ Rc6Accepts (-256) (-256) (-2) (-8) ∧ ¬ Rc6Accepts 256 0 0 0 ∧ ¬ Rc6Accepts 0 (-257) 0 0
      ∧ ¬ Rc6Accepts 0 0 2 0 ∧ ¬ Rc6Accepts 0 0 0 8 ∧ room (small 45).cfg.dcap 45 = true
      ∧ room (small 44).cfg.dcap 45 = false := by
  unfold Rc6Accepts fieldRange; decide +kernel

/-- The ticks of V79. -/
def v79Ticks : List Int := (v79.map fun x => List.replicate (x.num.natAbs / 444) (if 0 < x then (1 : Int) else -1)).flatten

theorem witness_DecRc6ReadsTheFrame :
    (bitify s0.cfg.roundTie (simplify v79) 444).toOption = some v79Ticks ∧ Rc6Shape v79Ticks
      ∧ (bitify s0.cfg.roundTie (simplify ([] : List Rat)) 444).toOption = some [] ∧ ¬ Rc6Shape []
      ∧ (bitify s0.cfg.roundTie (simplify [500]) 444).toOption = none := by
  unfold Rc6Shape tickAt; decide +kernel

theorem witness_Rc6RoundTrip :
    ∀ s ∈ [s0, { small 45 with pDevice := 255#32, pFunction := 255#32, pToggle := 1#32, pMode := 7#32 }],
      0 ≤ s.pDevice.toInt ∧ s.pDevice.toInt ≤ 255 ∧ 0 ≤ s.pFunction.toInt ∧ s.pFunction.toInt ≤ 255 ∧ 0 ≤ s.pToggle.toInt
        ∧ s.pToggle.toInt ≤ 1 ∧ 0 ≤ s.pMode.toInt ∧ s.pMode.toInt ≤ 7 ∧ room s.cfg.dcap 45 = true := by decide +kernel

theorem witness_DecodersWriteValuesInRange :
    s0.fault = false ∧ nextHas (exec .decRc5 { s0 with bufD := v61 }) (fun t => !t.fault) = true
      ∧ nextHas (exec .decRc6 { s0 with bufD := v79 }) (fun t => !t.fault) = true := by decide +kernel

theorem witness_EncRca38WritesItsFrame :
    Rca38Accepts 15 255 ∧ Rca38Accepts (-16) (-256) ∧ ¬ Rca38Accepts 16 0 ∧ ¬ Rca38Accepts 0 256 ∧ ¬ Rca38Accepts (-17) 0
      ∧ ¬ Rca38Accepts 0 (-257) ∧ room (small 52).cfg.dcap 52 = true ∧ room (small 51).cfg.dcap 52 = false := by
  unfold Rca38Accepts fieldRange; decide +kernel

theorem witness_EveryRca38FrameLastsTheSameTime :
    ((0 : Int) ≤ 15 ∧ (15 : Int) ≤ 2 ^ 4 - 1)
      ∧ Rca38Accepts s0.pDevice.toInt s0.pFunction.toInt ∧ room s0.cfg.dcap 52 = true := by
  unfold Rca38Accepts fieldRange; decide +kernel

theorem witness_Rca38FrameIsNormalized :
    Rca38Accepts ({ small 52 with pDevice := 15#32 } : State).pDevice.toInt (small 52).pFunction.toInt
      ∧ room (small 52).cfg.dcap 52 = true := by
  unfold Rca38Accepts fieldRange; decide +kernel

theorem witness_BlEncWritesTheStream :
    BlAccepts .halfEven 2 [9000, -4500, 560] ∧ BlAccepts .halfEven (-256) [] ∧ BlAccepts .halfEven 255 [1995787, -1000]
      ∧ room (small 12).cfg.bcap (blStreamOf .halfEven 2 [9000, -4500, 560]).length = true
      ∧ room (small 11).cfg.bcap (blStreamOf .halfEven 2 [9000, -4500, 560]).length = false
      ∧ ¬ BlAccepts .halfEven 256 [] ∧ ¬ BlAccepts .halfEven (-257) [] ∧ ¬ BlAccepts .halfEven 0 [1995788, -1000] := by
  unfold BlAccepts fieldRange; decide +kernel

theorem witness_BlEncPadsToSixteen :
    BlAccepts s0.cfg.roundTie s0.pBlrep.toInt s0.bufD
      ∧ room s0.cfg.bcap (blStreamOf s0.cfg.roundTie s0.pBlrep.toInt s0.bufD).length = true
      ∧ nextHas (exec .blEnc s0) (fun t => t.bufB.length = 12) = true := by
  unfold BlAccepts fieldRange; decide +kernel

theorem witness_BlDecReadsTheStream :
    EntriesOk [(255, false), (1, false), (256, true), (0, true), (65535, true)]
      ∧ (payloadOf [(255, false), (1, false), (256, true), (0, true), (65535, true)]).length ≤ 65535
      ∧ blBytes 5#8 (payloadOf [(255, false), (1, false), (256, true), (0, true), (65535, true)]) [0#8, 1#8]
        = [0x26#8, 5#8, 11#8, 0#8, 255#8, 1#8, 0#8, 1#8, 0#8, 0#8, 0#8, 0#8, 0#8, 255#8, 255#8, 0#8, 1#8]
      ∧ room (small 5).cfg.dcap 5 = true ∧ room (small 4).cfg.dcap 5 = false := by
  unfold EntriesOk; decide +kernel

theorem witness_BlDecRefusesMalformedStreams :
    s0.bufB.head? ≠ some 0x26#8 ∧ ([0x27#8, 0#8, 0#8, 0#8] : List Byte).head? ≠ some 0x26#8
      ∧ ([0x26#8, 0#8, 0#8] : List Byte).length < 4
      ∧ ([1#8, 2#8] : List Byte).length < (3#8 : Byte).toNat + 256 * (0#8 : Byte).toNat
      ∧ EntriesOk [(7, false)]
      ∧ (payloadOf [(7, false)] ++ 0#8 :: [1#8]).length ≤ 65535
      ∧ blBytes 0#8 (payloadOf [(7, false)] ++ 0#8 :: [1#8]) [2#8] = [0x26#8, 0#8, 3#8, 0#8, 7#8, 0#8, 1#8, 2#8]
      ∧ blBytes 0#8 (payloadOf [] ++ 0#8 :: []) [] = [0x26#8, 0#8, 1#8, 0#8, 0#8] := by
  unfold EntriesOk; decide +kernel

theorem witness_BroadlinkRoundTrip :
    (∀ m ∈ [1, 65535], 1 ≤ m ∧ m ≤ 65535) ∧ [1, 65535].length % 2 = 0 ∧ ([1, 65535].flatMap blEntryBytes).length ≤ 65535
      ∧ ({ small 12 with bufB := [0x26#8, 3#8, 4#8, 0#8, 1#8, 0#8, 255#8, 255#8, 0#8, 0#8, 0#8, 0#8] } : State).bufB
        = blBytes 3#8 ([1, 65535].flatMap blEntryBytes) (blPadding ([1, 65535].flatMap blEntryBytes).length)
      ∧ room (small 12).cfg.dcap [1, 65535].length = true ∧ room (small 12).cfg.bcap 12 = true := by decide +kernel

theorem witness_ProntoEncodersWriteTheCode :
    ProntoClockOf .prontoEncDef s0 103 (1 / 25) ∧ ProntoFits (1 / 25) d0 [] ∧ ProntoFits (1 / 25) [1638399, -10] []
      ∧ ProntoClockOf .prontoEncBase (s0.setInt .base 65535#32) 65535 (500000 / (65535 * 120623))
      ∧ ProntoClockOf .prontoEncBase (s0.setInt .base 1#32) 1 (500000 / 120623)
      ∧ ProntoClockOf .prontoEncFreq (s0.setRat .freq (19 / 500)) 109 (19 / 500)
      ∧ room (small 12).cfg.wcap (prontoWords 103 (1 / 25) d0 []).length = true
      ∧ room (small 11).cfg.wcap (prontoWords 103 (1 / 25) d0 []).length = false := by
  unfold ProntoClockOf ProntoFits
  refine ⟨?_, ?_, ?_, ?_, ?_, ?_, ?_, ?_⟩ <;> decide +kernel

theorem witness_ProntoEncodersRefuseWhatDoesNotFit :
    s0.pBase.toInt < 1 ∧ 65535 < ({ s0 with pBase := 65536#32 } : State).pBase.toInt ∧ s0.qFreq ≤ 0
      ∧ (0 : Rat) < 5 ∧ ⌊500000 / ((5 : Rat) * 120623)⌋ < 1
      ∧ (0 : Rat) < 1 / 100000 ∧ 65535 < ⌊500000 / ((1 / 100000 : Rat) * 120623)⌋
      ∧ ProntoClockOf .prontoEncDef s0 103 (1 / 25) ∧ ¬ ProntoFits (1 / 25) [1638400, -10] [] := by
  unfold ProntoClockOf ProntoFits; decide +kernel

theorem witness_ProntoDecReadsTheCode :
    ([0#16, 0x006D#16, 1#16, 0#16, 5#16, 6#16, 7#16, 8#16] : List Half)
        = [0#16, 0x006D#16, 1#16, 0#16] ++ [5#16, 6#16] ++ [7#16, 8#16]
      ∧ 0x006D#16 ≠ 0#16 ∧ ([5#16, 6#16] : List Half).length = 2 * ((1#16 : Half).toNat + (0#16 : Half).toNat)
      ∧ ([] : List Half).length = 2 * ((0#16 : Half).toNat + (0#16 : Half).toNat)
      ∧ room (small 2).cfg.dcap 2 = true ∧ room (small 1).cfg.dcap 2 = false := by decide +kernel

theorem witness_ProntoDecRefusesMalformedCodes :
    s0.bufW.head? ≠ some 0#16 ∧ ([1#16, 0x006D#16, 0#16, 0#16] : List Half).head? ≠ some 0#16
      ∧ ([0#16, 0x006D#16, 1#16] : List Half).length < 4
      ∧ ({ s0 with bufW := [0#16, 0#16, 0#16, 0#16] } : State).bufW = 0#16 :: 0#16 :: 0#16 :: 0#16 :: []
      ∧ ([5#16] : List Half).length < 2 * ((1#16 : Half).toNat + (0#16 : Half).toNat) := by decide +kernel

end Sys2Proof.Tests
end

section
/-! PROOFS. The statements of 00_scope.md: an error commits nothing (R12), rounding (R8), and the bits U2B writes (R10).
First the model's errors and capacity test in the words of the claims, which every family's statements are written in. -/

namespace Sys2Proof.Proofs

open Sys2Proof.Machine Sys2Proof.Claims

/-! ### Errors and capacities in the words of the claims -/

/-- The `STATUS` word an error leaves, by the weights of its fields (10_state.md R31). -/
theorem statusWord_fault_eq_ofNat (w b : Bool) (c : BitVec 3) :
    statusWord true w b c = BitVec.ofNat 32 (1 + 2 * w.toNat + 4 * b.toNat + 16 * c.toNat) := by
  revert w b c; decide

/-- Raising an error is recording it, and nothing else (60_exceptions.md R304). -/
theorem raise_eq_faulted (s : State) (e : Err) :
    s.raise e = faulted s e.code.toNat e.value e.unitLength e.unitError := by
  rw [State.raise, statusWord_fault_eq_ofNat]
  rfl

theorem raise_domain (s : State) : s.raise .domain = domainError s := raise_eq_faulted s .domain

theorem raise_timing (s : State) (d u e : Rat) : s.raise (.timing d u e) = faulted s 2 d u e :=
  raise_eq_faulted s (.timing d u e)

theorem raise_protocolDecode (s : State) : s.raise .protocolDecode = decodeError s :=
  raise_eq_faulted s .protocolDecode

theorem raise_format (s : State) : s.raise .format = formatError s := raise_eq_faulted s .format

theorem raise_illegalCommand (s : State) : s.raise .illegalCommand = illegalCommand s :=
  raise_eq_faulted s .illegalCommand

theorem raise_overflow (s : State) : s.raise .overflow = overflow s := raise_eq_faulted s .overflow

/-- The codes are 1 to 6 (60_exceptions.md R300). -/
theorem code_toNat_mem (e : Err) : 1 ≤ e.code.toNat ∧ e.code.toNat ≤ 6 := by
  cases e <;> simp [Err.code]

/-- Only a TimingToleranceError, code 2, records anything in the error registers (60_exceptions.md R304). -/
theorem error_registers_zero {e : Err} (h : e.code.toNat ≠ 2) : e.value = 0 ∧ e.unitLength = 0 ∧ e.unitError = 0 := by
  cases e
  case timing => exact absurd rfl h
  all_goals exact ⟨rfl, rfl, rfl⟩

/-- The capacity test of the model is the one of the claims. -/
theorem fits_eq_room (cap : Option Nat) (n : Nat) : fits cap n = room cap n := by cases cap <;> rfl

theorem settle_bounded_of_room {β : Type} {s : State} {cap : Option Nat} {size : β → Nat} {write : β → State} {v : β}
    (h : room cap (size v) = true) : settle s (bounded cap size (.ok v)) write = write v := by
  simp [bounded, fits_eq_room, h]

theorem settle_bounded_of_no_room {β : Type} {s : State} {cap : Option Nat} {size : β → Nat} {write : β → State} {v : β}
    (h : room cap (size v) = false) : settle s (bounded cap size (.ok v)) write = overflow s := by
  simp [bounded, fits_eq_room, h, raise_overflow]

@[simp] theorem settle_bounded_error {β : Type} (s : State) (cap : Option Nat) (size : β → Nat) (write : β → State)
    (e : Err) : settle s (bounded cap size (.error e)) write = s.raise e := rfl

/-! ### What a command can do -/

/-- What every commit leaves alone, whatever it writes: the error registers, the configuration and the host's lists. -/
structure CommitFrame (s t : State) : Prop where
  eValue : t.eValue = s.eValue
  eUnit : t.eUnit = s.eUnit
  eError : t.eError = s.eError
  cfg : t.cfg = s.cfg
  pending : t.pending = s.pending
  answers : t.answers = s.answers

/-- A command raised an error, or committed and left `STATUS` as it was. -/
def RaisesOrCommits (s t : State) : Prop := (∃ e, t = s.raise e) ∨ (CommitFrame s t ∧ t.status = s.status)

theorem commitFrame_putD (s : State) (xs : List Rat) : CommitFrame s (s.putD xs) := ⟨rfl, rfl, rfl, rfl, rfl, rfl⟩

theorem commitFrame_putBl (s : State) (c : BlCode) : CommitFrame s (s.putBl c) := by
  unfold State.putBl
  cases c.warning <;> exact ⟨rfl, rfl, rfl, rfl, rfl, rfl⟩

/-- BL.DEC sets WARN or leaves `STATUS` as it was (46_broadlink.md R226). -/
theorem putBl_status (s : State) (c : BlCode) :
    (s.putBl c).status = if c.warning then s.status ||| 2#32 else s.status := by
  unfold State.putBl
  cases c.warning <;> rfl

/-- An atomic commit raises or commits when each of its writes leaves alone what a commit leaves alone. -/
theorem settle_raisesOrCommits {β : Type} {s : State} (r : Except Err β) {write : β → State}
    (hframe : ∀ v, CommitFrame s (write v)) (hstatus : ∀ v, (write v).status = s.status) :
    RaisesOrCommits s (settle s r write) := by
  cases r with
  | ok v => exact .inr ⟨hframe v, hstatus v⟩
  | error e => exact .inl ⟨e, rfl⟩

theorem commitD_raisesOrCommits (s : State) (r : Except Err (List Rat)) : RaisesOrCommits s (commitD s r) :=
  settle_raisesOrCommits _ (commitFrame_putD s) fun _ => rfl

theorem commitW_raisesOrCommits (s : State) (r : Except Err (List Half)) : RaisesOrCommits s (commitW s r) :=
  settle_raisesOrCommits _ (fun _ => ⟨rfl, rfl, rfl, rfl, rfl, rfl⟩) fun _ => rfl

/-- Every command but RESET and BL.DEC raises an error or commits and leaves `STATUS` as it was. -/
theorem exec_raisesOrCommits {i : Instr} {s t : State} (hreset : i ≠ .reset) (hbl : i ≠ .blDec)
    (h : exec i s = .next t) : RaisesOrCommits s t := by
  cases i
  case reset => exact absurd rfl hreset
  case blDec => exact absurd rfl hbl
  case simplify | trimL | trimT | unbitify => cases h; exact .inr ⟨commitFrame_putD s _, rfl⟩
  case u2b | b2u | decRc5 | decRc6 | blEnc | prontoDec =>
    cases h; exact settle_raisesOrCommits _ (fun _ => ⟨rfl, rfl, rfl, rfl, rfl, rfl⟩) fun _ => rfl
  case prontoEncDef | prontoEncBase | prontoEncFreq => cases h; exact commitW_raisesOrCommits s _
  case repeatSignal =>
    simp only [exec, execRepeatSignal] at h
    split at h
    · cases h; exact commitD_raisesOrCommits s _
    · cases h; exact .inr ⟨⟨rfl, rfl, rfl, rfl, rfl, rfl⟩, rfl⟩
  -- BITIFY, PAIRED and the encoders of signals
  all_goals cases h; exact commitD_raisesOrCommits s _

/-- What a command can leave: RESET the reset state; any other one error and no write, or a commit that changes `STATUS`
only where BL.DEC sets WARN. -/
theorem exec_cases {i : Instr} {s t : State} (h : exec i s = .next t) :
    (i = .reset ∧ t = s.clear)
      ∨ (∃ e, t = s.raise e)
      ∨ (CommitFrame s t ∧ (t.status = s.status ∨ (i = .blDec ∧ t.status = s.status ||| 2#32))) := by
  by_cases hreset : i = .reset
  · subst hreset; cases h; exact .inl ⟨rfl, rfl⟩
  by_cases hbl : i = .blDec
  · subst hbl
    cases h
    rcases settle_cases s _ s.putBl with ⟨c, -, hc⟩ | ⟨e, -, he⟩
    · rw [hc]
      refine .inr (.inr ⟨commitFrame_putBl s c, ?_⟩)
      rw [putBl_status]
      cases c.warning
      · exact .inl rfl
      · exact .inr ⟨rfl, rfl⟩
    · exact .inr (.inl ⟨e, he⟩)
  · rcases exec_raisesOrCommits hreset hbl h with herr | ⟨hframe, hstatus⟩
    · exact .inr (.inl herr)
    · exact .inr (.inr ⟨hframe, .inl hstatus⟩)

/-- A command takes an idle block into FAULT by raising an error, and in no other way. -/
theorem exec_enters_fault {i : Instr} {s t : State} (hs : s.fault = false) (h : exec i s = .next t)
    (ht : t.fault = true) : ∃ e, t = s.raise e := by
  rcases exec_cases h with ⟨-, rfl⟩ | herr | ⟨-, hstatus⟩
  · rw [clear_fault] at ht; cases ht
  · exact herr
  · have hkept : t.fault = s.fault := by
      rcases hstatus with hstatus | ⟨-, hstatus⟩
      · exact (flags_of_status_eq hstatus).1
      · rw [State.fault, hstatus, statusFault_or_warn]; rfl
    rw [hkept, hs] at ht
    cases ht

/-- Settles O10: FAULT is entered by `State.raise` alone, which records the error and writes nothing else. -/
theorem anErrorCommitsNothing : Obligations.AnErrorCommitsNothing := by
  intro i s t hs h ht
  obtain ⟨e, rfl⟩ := exec_enters_fault hs h ht
  obtain ⟨hlow, hhigh⟩ := code_toNat_mem e
  exact ⟨e.code.toNat, e.value, e.unitLength, e.unitError, hlow, hhigh, error_registers_zero, raise_eq_faulted s e⟩

/-! ### Rounding (00_scope.md R8) -/

/-- An exact half goes to one of its two neighbours under either tie rule. -/
theorem roundHalf_eq_or (tie : RoundTie) (f : Int) : roundHalf tie f = f ∨ roundHalf tie f = f + 1 := by
  cases tie with
  | halfEven => exact ite_eq_or_eq _ _ _
  | halfAway => exact (ite_eq_or_eq _ _ _).symm

/-- `round` misses by the distance to the nearer of the two neighbours, whatever the tie rule. -/
theorem abs_sub_roundRat (tie : RoundTie) (x : Rat) :
    |x - (roundRat tie x : Rat)| = min (Int.fract x) (1 - Int.fract x) := by
  have hfloor : |x - (⌊x⌋ : Rat)| = Int.fract x := by rw [Int.self_sub_floor, Int.abs_fract]
  have hceil : |x - ((⌊x⌋ + 1 : Int) : Rat)| = 1 - Int.fract x := by
    rw [← Int.abs_one_sub_fract, ← abs_neg, Int.fract]; push_cast; ring_nf
  rcases roundRat_cases tie x with ⟨hx, hr⟩ | ⟨hx, hr⟩ | ⟨hx, hr⟩ <;> rw [Int.self_sub_floor] at hx <;> rw [hr]
  · rw [hfloor, min_eq_left (by linarith)]
  · rw [hceil, min_eq_right (by linarith)]
  · have hhalf : min (Int.fract x) (1 - Int.fract x) = 1 / 2 := by rw [hx]; norm_num
    have hup : |x - ((⌊x⌋ + 1 : Int) : Rat)| = 1 / 2 := by rw [hceil, hx]; norm_num
    rw [hhalf]
    rcases roundHalf_eq_or tie ⌊x⌋ with hdown | hover
    · rw [hdown, hfloor, hx]
    · rw [hover, hup]

/-- No integer is nearer than `round`: it misses by as much as the library's `round`, which is a nearest integer. -/
theorem roundRat_nearest (tie : RoundTie) (x : Rat) (n : Int) : |x - (roundRat tie x : Rat)| ≤ |x - (n : Rat)| := by
  rw [abs_sub_roundRat, ← abs_sub_round_eq_min]
  exact round_le x n

/-- A number half a unit off some integer lies half way between two. -/
theorem fract_eq_half_of_abs_sub {x : Rat} {n : Int} (h : |x - (n : Rat)| = 1 / 2) : Int.fract x = 1 / 2 := by
  rcases eq_or_eq_neg_of_abs_eq h with h | h
  · exact Int.fract_eq_iff.mpr ⟨by norm_num, by norm_num, n, by linarith⟩
  · exact Int.fract_eq_iff.mpr ⟨by norm_num, by norm_num, n - 1, by push_cast; linarith⟩

/-- At an exact half the tie rule decides. -/
theorem roundRat_of_half (tie : RoundTie) {x : Rat} (h : Int.fract x = 1 / 2) :
    roundRat tie x = roundHalf tie ⌊x⌋ := by
  rcases roundRat_cases tie x with ⟨hx, -⟩ | ⟨hx, -⟩ | ⟨-, hr⟩
  · rw [Int.self_sub_floor, h] at hx; exact absurd hx (lt_irrefl _)
  · rw [Int.self_sub_floor, h] at hx; exact absurd hx (lt_irrefl _)
  · exact hr

theorem roundHalf_halfEven_even (f : Int) : roundHalf .halfEven f % 2 = 0 := by
  simp only [roundHalf]
  split <;> omega

/-- Half away from zero is no nearer to zero than the half `f + 1/2` it rounds. -/
theorem abs_half_le_roundHalf_halfAway (f : Int) : |(f : Rat) + 1 / 2| ≤ |(roundHalf .halfAway f : Rat)| := by
  simp only [roundHalf]
  split
  case isTrue hf =>
    have hf' : (0 : Rat) ≤ f := by exact_mod_cast hf
    rw [abs_of_nonneg (by linarith)]
    refine le_trans ?_ (le_abs_self _)
    push_cast
    linarith
  case isFalse hf =>
    have hf' : (f : Rat) ≤ -1 := by exact_mod_cast Int.le_sub_one_of_lt (not_le.mp hf)
    rw [abs_of_neg (by linarith)]
    refine le_trans ?_ (neg_le_abs _)
    linarith

theorem roundTenth_mul_ten (tie : RoundTie) (x : Rat) : roundTenth tie x * 10 = (roundRat tie (10 * x) : Rat) :=
  div_mul_cancel₀ _ (by norm_num)

/-- Settles O21, from the distance `round` misses by and its value at an exact half. -/
theorem roundingIsToTheNearestWithTheConfiguredTie : Obligations.RoundingIsToTheNearestWithTheConfiguredTie := by
  refine ⟨roundRat_nearest, fun x n h => ?_, fun x n h => ?_, roundTenth_mul_ten,
    fun x _ => ⟨Int.floor_le x, Int.lt_floor_add_one x⟩⟩
  · rw [roundRat_of_half _ (fract_eq_half_of_abs_sub h)]
    exact roundHalf_halfEven_even _
  · have hhalf := fract_eq_half_of_abs_sub h
    have hx : x = (⌊x⌋ : Rat) + 1 / 2 := by rw [← hhalf, Int.floor_add_fract]
    rw [roundRat_of_half _ hhalf]
    calc |x| = |(⌊x⌋ : Rat) + 1 / 2| := congrArg _ hx
      _ ≤ |(roundHalf .halfAway ⌊x⌋ : Rat)| := abs_half_le_roundHalf_halfAway _

/-! ### U2B (40_primitives.md R101) -/

/-- The bits `bitsMsb` takes off one by one, place by place. -/
theorem bitsMsb_eq_map_testBit (w v : Nat) : bitsMsb w v = (List.range w).map fun k => v.testBit (w - 1 - k) := by
  induction w with
  | zero => rfl
  | succ w ih =>
    rw [bitsMsb, ih, List.range_succ_eq_map, List.map_cons, List.map_map]
    refine congrArg₂ List.cons (by simp) (List.map_congr_left fun k _ => ?_)
    simp only [Function.comp_apply]
    congr 1
    omega

@[simp] theorem msbBits_length (w : Nat) (v : Int) : (msbBits w v).length = w := by simp [msbBits]

/-- A negative value of the field's range, moved up by `2^w`, is the value modulo `2^w` (40_primitives.md R101). -/
theorem biased_eq_emod {v : Int} {w : Nat} (h : fieldRange v w) : (if v < 0 then v + 2 ^ w else v) = v % 2 ^ w := by
  obtain ⟨hlow, hhigh⟩ := h
  split
  case isTrue hv => rw [← Int.add_emod_right, Int.emod_eq_of_lt (by omega) (by omega)]
  case isFalse hv => rw [Int.emod_eq_of_lt (by omega) (by omega)]

theorem u2b_of_fieldRange {v : Int} {w : Nat} (hw : w ≤ 31) (h : fieldRange v w) : u2b v w = .ok (msbBits w v) := by
  have hpos : (0 : Int) < 2 ^ w := by positivity
  have hnonneg := Int.emod_nonneg v hpos.ne'
  have hlt := Int.emod_lt_of_pos v hpos
  have hwidth : ¬ ((w : Int) < 0 ∨ pw - 1 < (w : Int)) := by unfold pw; omega
  rw [u2b, if_neg hwidth]
  simp only [Int.toNat_natCast, biased_eq_emod h]
  rw [if_neg (by omega), bitsMsb_eq_map_testBit]
  rfl

theorem u2b_of_out_of_range {v w : Int} (h : w < 0 ∨ 31 < w ∨ ¬ fieldRange v w.toNat) : u2b v w = .error .domain := by
  rcases u2b_cases v w with herr | ⟨hw0, hw31, hlow, hhigh, -⟩
  · exact herr
  · have hrange : fieldRange v w.toNat := ⟨hlow, Int.le_sub_one_of_lt hhigh⟩
    rcases h with h | h | h
    · exact absurd hw0 (not_le.mpr h)
    · exact absurd hw31 (not_le.mpr h)
    · exact absurd hrange h

theorem exec_u2b (s : State) :
    exec .u2b s = .next (settle s (bounded s.cfg.scap List.length (u2b s.pValue.toInt s.pWidth.toInt)) s.putS) := rfl

/-- Settles O22, by the range of the operands and the room in `S`. -/
theorem u2bWritesTheBitsOfTheValue : Obligations.U2bWritesTheBitsOfTheValue := by
  intro s
  refine ⟨fun w hwidth hw hrange => ?_, fun hout => ?_⟩
  · rw [exec_u2b, hwidth, u2b_of_fieldRange hw hrange]
    refine ⟨fun hroom => ?_, fun hroom => ?_⟩
    · rw [settle_bounded_of_room (by simpa using hroom)]; rfl
    · rw [settle_bounded_of_no_room (by simpa using hroom)]
  · rw [exec_u2b, u2b_of_out_of_range hout, settle_bounded_error, raise_domain]

end Sys2Proof.Proofs
end

section
/-! PROOFS. The statements of 10_state.md: the reset values (R38), the invariant `Safe`, the configuration (R37), and
the host's accesses (R52). First the errors a command's computation can raise, then the one effect a step has: every
invariant here is read off it. -/

namespace Sys2Proof.Proofs

open Sys2Proof.Machine Sys2Proof.Claims

/-! ### The errors of a computation, before the capacity test -/

/-- An error a computation raises by itself: not Overflow, which only the capacity test raises (60_exceptions.md R303),
and a TimingToleranceError only with a positive unit and an error above 1/10 and at most 1/2 (40_primitives.md R105,
R108). -/
def ComputedError : Err → Prop
  | .timing _ u e => 0 < u ∧ 1 / 10 < e ∧ e ≤ 1 / 2
  | .overflow => False
  | .domain => True
  | .protocolDecode => True
  | .format => True
  | .illegalCommand => True

/-- Whatever error `r` is, a computation raises it by itself. -/
def RaisesComputed {β : Type} (r : Except Err β) : Prop := ∀ e, r = .error e → ComputedError e

theorem raisesComputed_ok {β : Type} (v : β) : RaisesComputed (.ok v : Except Err β) := fun _ h => by cases h

theorem raisesComputed_of_kind {β : Type} {r : Except Err β} {k : Err} (hk : ComputedError k)
    (h : ∀ {e}, r = .error e → e = k) : RaisesComputed r := fun _ he => h he ▸ hk

theorem raisesComputed_of_domain {β : Type} {r : Except Err β} (h : ∀ {e}, r = .error e → e = .domain) :
    RaisesComputed r := raisesComputed_of_kind (k := .domain) trivial h

theorem raisesComputed_of_format {β : Type} {r : Except Err β} (h : ∀ {e}, r = .error e → e = .format) :
    RaisesComputed r := raisesComputed_of_kind (k := .format) trivial h

theorem raisesComputed_map {β γ : Type} {r : Except Err β} (f : β → γ) (h : RaisesComputed r) :
    RaisesComputed (r.map f) := by
  cases r with
  | ok v => exact raisesComputed_ok (f v)
  | error e => intro e' he; cases he; exact h e rfl

theorem field_error {v w : Int} {code : Bool → List Int} {e : Err} (h : field v w code = .error e) : e = .domain := by
  rcases field_cases v w code with ⟨-, h'⟩ | ⟨bits, -, h'⟩ <;> rw [h'] at h <;> cases h
  rfl

theorem necByte_error {v : Int} {e : Err} (h : necByte v = .error e) : e = .domain := by
  rcases necByte_cases v with ⟨-, h'⟩ | ⟨bits, -, h'⟩ <;> rw [h'] at h <;> cases h
  rfl

/-- An NEC frame raises DomainError alone, at the first byte out of range (42_nec.md R144); so does every frame below,
at its first field out of range (43_rc5.md R160, 44_rc6.md R180, 45_rca38.md R200). -/
theorem necFrame_error {t : NecLeader} {v : NecVariant} {x : NecSuffix} {dev sub fn : Int} {e : Err}
    (h : necFrame t v x dev sub fn = .error e) : e = .domain := by
  unfold necFrame at h
  repeat' split at h
  all_goals cases h
  all_goals exact necByte_error ‹_›

theorem rc5Frame_error {dev fn tg : Int} {e : Err} (h : rc5Frame dev fn tg = .error e) : e = .domain := by
  unfold rc5Frame at h
  repeat' split at h
  all_goals cases h
  all_goals exact field_error ‹_›

theorem rc6Frame_error {dev fn tg mode : Int} {e : Err} (h : rc6Frame dev fn tg mode = .error e) : e = .domain := by
  unfold rc6Frame at h
  repeat' split at h
  all_goals cases h
  all_goals exact field_error ‹_›

theorem rca38Frame_error {dev fn : Int} {e : Err} (h : rca38Frame dev fn = .error e) : e = .domain := by
  unfold rca38Frame at h
  repeat' split at h
  all_goals cases h
  all_goals exact field_error ‹_›

theorem b2uChecked_error {bits : List Bool} {e : Err} (h : b2uChecked bits = .error e) : e = .domain := by
  unfold b2uChecked at h
  split at h <;> cases h
  rfl

/-- The distance from the nearest multiple, in units, is at most 1/2 (40_primitives.md R108). -/
theorem unitError_le_half (tie : RoundTie) {u : Rat} (hu : 0 < u) (d : Rat) :
    absRat (absRat d - (roundRat tie (absRat d / u) : Rat) * u) / u ≤ 1 / 2 := by
  have hunits : absRat (absRat d - (roundRat tie (absRat d / u) : Rat) * u) / u
      = |absRat d / u - (roundRat tie (absRat d / u) : Rat)| := by
    rw [absRat_eq_abs (_ - _), div_eq_iff hu.ne', ← abs_of_pos hu, ← abs_mul, abs_of_pos hu, sub_mul,
      div_mul_cancel₀ _ hu.ne']
  rw [hunits]
  exact (roundRat_nearest tie _ (round _)).trans (abs_sub_round _)

theorem raisesComputed_bitifyOne (tie : RoundTie) {u : Rat} (hu : 0 < u) (d : Rat) :
    RaisesComputed (bitifyOne tie u d) := by
  intro e h
  rcases bitifyOne_cases tie u d with ⟨-, h'⟩ | ⟨htol, h'⟩ <;> rw [h'] at h <;> cases h
  exact ⟨hu, htol, unitError_le_half tie hu d⟩

theorem raisesComputed_bitifyAll (tie : RoundTie) {u : Rat} (hu : 0 < u) (ds : List Rat) :
    RaisesComputed (bitifyAll tie u ds) := by
  induction ds with
  | nil => exact raisesComputed_ok []
  | cons d ds ih =>
    intro e he
    rcases bitifyAll_cons_cases tie u d ds with ⟨e', hd, h⟩ | ⟨run, e', -, hds, h⟩ | ⟨run, rest, -, -, h⟩ <;>
      rw [h] at he <;> cases he
    · exact raisesComputed_bitifyOne tie hu d e hd
    · exact ih e hds

/-- BITIFY refuses a unit of 0 or less first, so a TimingToleranceError has a positive one (40_primitives.md R105). -/
theorem raisesComputed_bitify (tie : RoundTie) (ds : List Rat) (u : Rat) : RaisesComputed (bitify tie ds u) := by
  unfold bitify
  split
  case isTrue => exact raisesComputed_of_domain fun h => (Except.error.inj h).symm
  case isFalse hu => exact raisesComputed_bitifyAll tie (not_le.mp hu) ds

theorem rc5Read_error {T : List Int} {i : Nat} {e : Err} (h : rc5Read T i = .error e) : e = .protocolDecode := by
  rcases rc5Read_cases T i with ⟨-, -, h'⟩ | ⟨-, -, h'⟩ | ⟨-, -, h'⟩ <;> rw [h'] at h <;> cases h
  rfl

theorem rc6Read_error {T : List Int} {i : Nat} {e : Err} (h : rc6Read T i = .error e) : e = .protocolDecode := by
  rcases rc6Read_cases T i with ⟨-, -, h'⟩ | ⟨-, -, h'⟩ | ⟨-, -, h'⟩ <;> rw [h'] at h <;> cases h
  rfl

theorem rc6ReadToggle_error {T : List Int} {i : Nat} {e : Err} (h : rc6ReadToggle T i = .error e) :
    e = .protocolDecode := by
  unfold rc6ReadToggle at h
  dsimp only at h
  repeat' split at h
  all_goals cases h
  rfl

/-- Bits read in a row raise what the reader of one bit raises. -/
theorem readBits_error {rd : Nat → Except Err Bool} {k : Err} (hrd : ∀ {i e}, rd i = .error e → e = k)
    {i n : Nat} {e : Err} (h : readBits rd i n = .error e) : e = k := by
  induction n generalizing i with
  | zero => cases h
  | succ n ih =>
    rcases readBits_succ_cases rd i n with ⟨e', hr, h'⟩ | ⟨b, e', -, hr, h'⟩ | ⟨b, bs, -, -, h'⟩ <;>
      rw [h'] at h <;> cases h
    · exact hrd hr
    · exact ih hr

/-- A capture that is not a frame raises ProtocolDecodeError, wherever it fails (43_rc5.md R168). -/
theorem rc5Parse_error {T : List Int} {e : Err} (h : rc5Parse T = .error e) : e = .protocolDecode := by
  unfold rc5Parse at h
  split at h
  case isTrue => cases h; rfl
  split at h
  case h_1 hfield => cases h; exact rc5Read_error hfield
  split at h
  case h_1 htoggle => cases h; exact rc5Read_error htoggle
  repeat' split at h
  all_goals cases h
  all_goals exact readBits_error rc5Read_error ‹_›

theorem rc6Parse_error {T : List Int} {e : Err} (h : rc6Parse T = .error e) : e = .protocolDecode := by
  unfold rc6Parse at h
  split at h
  case isTrue => cases h; rfl
  split at h
  case h_1 hstart => cases h; exact rc6Read_error hstart
  split at h
  case isTrue => cases h; rfl
  split at h
  case h_1 hmode => cases h; exact readBits_error rc6Read_error hmode
  split at h
  case h_1 htoggle => cases h; exact rc6ReadToggle_error htoggle
  repeat' split at h
  all_goals cases h
  all_goals exact readBits_error rc6Read_error ‹_›

theorem raisesComputed_rc5Decode (tie : RoundTie) (d : List Rat) : RaisesComputed (rc5Decode tie d) := by
  intro e h
  unfold rc5Decode at h
  split at h
  case h_1 hbitify => cases h; exact raisesComputed_bitify _ _ _ e hbitify
  case h_2 => rw [rc5Parse_error h]; trivial

theorem raisesComputed_rc6Decode (tie : RoundTie) (d : List Rat) : RaisesComputed (rc6Decode tie d) := by
  intro e h
  unfold rc6Decode at h
  split at h
  case h_1 hbitify => cases h; exact raisesComputed_bitify _ _ _ e hbitify
  case h_2 => rw [rc6Parse_error h]; trivial

theorem blPayload_error {tie : RoundTie} {ds : List Rat} {e : Err} (h : blPayload tie ds = .error e) : e = .domain := by
  induction ds with
  | nil => cases h
  | cons d ds ih =>
    unfold blPayload at h
    split at h
    case h_1 hentry =>
      cases h
      rcases blEntry_cases (blMagnitude tie d) with ⟨-, h'⟩ | ⟨-, -, h'⟩ | ⟨-, h'⟩ <;>
        rw [h'] at hentry <;> cases hentry
      rfl
    case h_2 =>
      split at h
      case h_1 hrest => cases h; exact ih hrest
      case h_2 => cases h

theorem blEncode_error {tie : RoundTie} {rep : Int} {d : List Rat} {e : Err} (h : blEncode tie rep d = .error e) :
    e = .domain := by
  unfold blEncode at h
  split at h
  case h_1 hrep => cases h; exact u2b_error hrep
  split at h
  case h_1 hpayload => cases h; exact blPayload_error hpayload
  split at h <;> cases h
  rfl

/-- A payload that ends inside an escape raises FormatError (46_broadlink.md R223). -/
theorem blMagnitudes_error {bs : List Byte} {e : Err} (h : blMagnitudes bs = .error e) : e = .format := by
  fun_induction blMagnitudes bs <;> cases h
  case case2 ih hrest => exact ih hrest
  case case4 ih hmore => exact ih hmore
  case case6 => rfl

theorem blDecode_error {tie : RoundTie} {bs : List Byte} {e : Err} (h : blDecode tie bs = .error e) : e = .format := by
  unfold blDecode at h
  split at h
  case isTrue => cases h; rfl
  unfold blDecodeBody at h
  split at h
  case h_2 => cases h; rfl
  dsimp only at h
  split at h
  case isTrue => cases h; rfl
  split at h
  case h_1 hmags => cases h; exact blMagnitudes_error hmags
  case h_2 => cases h

theorem prontoCounts_error {freq : Rat} {ds : List Rat} {e : Err} (h : prontoCounts freq ds = .error e) :
    e = .domain := by
  induction ds with
  | nil => cases h
  | cons d ds ih =>
    unfold prontoCounts at h
    split at h
    case isTrue => cases h; rfl
    split at h
    case h_1 hrest => cases h; exact ih hrest
    case h_2 => cases h

/-- A Pronto encoder raises DomainError alone: at the clock source, the pair counts or a count (47_pronto.md R240,
R245). -/
theorem prontoEncode_error {clock : Except Err ProntoClock} {d e : List Rat} {err : Err}
    (hclock : ∀ {k}, clock = .error k → k = .domain) (h : prontoEncode clock d e = .error err) : err = .domain := by
  unfold prontoEncode at h
  split at h
  case h_1 => cases h; exact hclock rfl
  unfold prontoBody at h
  dsimp only at h
  split at h
  case isTrue => cases h; rfl
  split at h
  case h_1 hcounts => cases h; exact prontoCounts_error hcounts
  case h_2 => cases h

theorem prontoClockBase_error {base : Int} {e : Err} (h : prontoClockBase base = .error e) : e = .domain := by
  unfold prontoClockBase at h
  split at h <;> cases h
  rfl

theorem prontoClockFreq_error {freq : Rat} {e : Err} (h : prontoClockFreq freq = .error e) : e = .domain := by
  unfold prontoClockFreq at h
  repeat' split at h
  all_goals cases h
  all_goals rfl

theorem prontoDecode_error {tie : RoundTie} {ws : List Half} {e : Err} (h : prontoDecode tie ws = .error e) :
    e = .format := by
  unfold prontoDecode prontoDecodeBody at h
  repeat' split at h
  all_goals cases h
  all_goals rfl

/-! ### The one effect of a command, a host action and a step -/

/-- No buffer has a finite capacity. -/
structure Unbounded (c : Config) : Prop where
  dcap : c.dcap = none
  ecap : c.ecap = none
  bcap : c.bcap = none
  wcap : c.wcap = none
  scap : c.scap = none

/-- An error some command can raise under the configuration `c`: Overflow needs a finite capacity (60_exceptions.md
R303). -/
def Raisable (c : Config) (e : Err) : Prop := ComputedError e ∨ (e = .overflow ∧ ¬ Unbounded c)

/-- A write that changes `STATUS` in WARN at most and keeps every buffer within its capacity. -/
structure Commits (s t : State) : Prop extends CommitFrame s t where
  status : t.status = s.status ∨ t.status = s.status ||| 2#32
  buffers : BuffersFit s → BuffersFit t

/-- All that can happen to the block in a step that does something. -/
inductive Effect (s : State) : State → Prop
  /-- RESET or the hardware reset. -/
  | reset : Effect s s.clear
  /-- An error, and no write. -/
  | raised {e : Err} (h : Raisable s.cfg e) : Effect s (s.raise e)
  /-- The writes of a command, a SET or a LOAD. -/
  | committed {t : State} (h : Commits s t) : Effect s t
  /-- The answer to a GET or a READ. -/
  | answered (a : Answer) : Effect s (s.answer a)

/-- A commit to registers alone. -/
theorem commits_of_buffers_eq {s t : State} (hframe : CommitFrame s t) (hstatus : t.status = s.status)
    (hbufs : t.bufD = s.bufD ∧ t.bufE = s.bufE ∧ t.bufB = s.bufB ∧ t.bufW = s.bufW ∧ t.bufS = s.bufS) :
    Commits s t := by
  obtain ⟨hD, hE, hB, hW, hS⟩ := hbufs
  refine ⟨hframe, .inl hstatus, fun h => ?_⟩
  rw [BuffersFit, hframe.cfg, hD, hE, hB, hW, hS]
  exact h

theorem commits_refl (s : State) : Commits s s := ⟨⟨rfl, rfl, rfl, rfl, rfl, rfl⟩, .inl rfl, id⟩

theorem commits_setInt (s : State) (r : IntReg) (v : Word) : Commits s (s.setInt r v) :=
  commits_of_buffers_eq (by constructor <;> simp) (by simp) (by simp)

theorem commits_setRat (s : State) (r : RatReg) (v : Rat) : Commits s (s.setRat r v) :=
  commits_of_buffers_eq (by constructor <;> simp) (by simp) (by simp)

/-- A new content of `D`, and whatever is written beside it, when the content fits wherever the old buffers fit. -/
theorem commits_of_bufD {s t : State} (hframe : CommitFrame s t)
    (hstatus : t.status = s.status ∨ t.status = s.status ||| 2#32)
    (hfit : BuffersFit s → fits s.cfg.dcap t.bufD.length = true)
    (hbufs : t.bufE = s.bufE ∧ t.bufB = s.bufB ∧ t.bufW = s.bufW ∧ t.bufS = s.bufS) : Commits s t := by
  obtain ⟨hE, hB, hW, hS⟩ := hbufs
  refine ⟨hframe, hstatus, fun h => ?_⟩
  rw [BuffersFit, hframe.cfg, hE, hB, hW, hS]
  exact ⟨hfit h, h.2⟩

theorem commits_putD {s : State} {xs : List Rat} (h : BuffersFit s → fits s.cfg.dcap xs.length = true) :
    Commits s (s.putD xs) :=
  commits_of_bufD (commitFrame_putD s xs) (.inl rfl) h ⟨rfl, rfl, rfl, rfl⟩

theorem commits_putE {s : State} {xs : List Rat} (h : fits s.cfg.ecap xs.length = true) : Commits s (s.putE xs) :=
  ⟨⟨rfl, rfl, rfl, rfl, rfl, rfl⟩, .inl rfl, fun ⟨hD, _, hB, hW, hS⟩ => ⟨hD, h, hB, hW, hS⟩⟩

theorem commits_putB {s : State} {xs : List Byte} (h : fits s.cfg.bcap xs.length = true) : Commits s (s.putB xs) :=
  ⟨⟨rfl, rfl, rfl, rfl, rfl, rfl⟩, .inl rfl, fun ⟨hD, hE, _, hW, hS⟩ => ⟨hD, hE, h, hW, hS⟩⟩

theorem commits_putW {s : State} {xs : List Half} (h : fits s.cfg.wcap xs.length = true) : Commits s (s.putW xs) :=
  ⟨⟨rfl, rfl, rfl, rfl, rfl, rfl⟩, .inl rfl, fun ⟨hD, hE, hB, _, hS⟩ => ⟨hD, hE, hB, h, hS⟩⟩

theorem commits_putS {s : State} {xs : List Bool} (h : fits s.cfg.scap xs.length = true) : Commits s (s.putS xs) :=
  ⟨⟨rfl, rfl, rfl, rfl, rfl, rfl⟩, .inl rfl, fun ⟨hD, hE, hB, hW, _⟩ => ⟨hD, hE, hB, hW, h⟩⟩

theorem commits_putBl {s : State} {c : BlCode} (h : fits s.cfg.dcap c.durations.length = true) :
    Commits s (s.putBl c) := by
  refine commits_of_bufD (commitFrame_putBl s c) ?_ (fun _ => by simpa using h) (by simp)
  rw [putBl_status]
  exact (ite_eq_or_eq _ _ _).symm

/-- A computation without a capacity test commits, or raises its own error. -/
theorem effect_settle {β : Type} {s : State} {r : Except Err β} {write : β → State} (herr : RaisesComputed r)
    (hwrite : ∀ v, Commits s (write v)) : Effect s (settle s r write) := by
  cases r with
  | ok v => exact .committed (hwrite v)
  | error e => exact .raised (.inl (herr e rfl))

/-- A computation with the capacity test commits a result that fits, or raises its own error or Overflow. -/
theorem effect_settle_bounded {β : Type} {s : State} {cap : Option Nat} {size : β → Nat} {r : Except Err β}
    {write : β → State} (hcap : Unbounded s.cfg → cap = none) (herr : RaisesComputed r)
    (hwrite : ∀ v, fits cap (size v) = true → Commits s (write v)) :
    Effect s (settle s (bounded cap size r) write) := by
  rcases bounded_cases (cap := cap) (size := size) (r := r) with
    ⟨v, -, hfit, hb⟩ | ⟨v, -, hfit, hb⟩ | ⟨e, he, hb⟩ <;> rw [hb]
  · exact .committed (hwrite v hfit)
  · refine .raised (.inr ⟨rfl, fun hnone => ?_⟩)
    rw [hcap hnone, fits_none] at hfit
    cases hfit
  · exact .raised (.inl (herr e he))

theorem effect_commitD (s : State) {r : Except Err (List Rat)} (herr : RaisesComputed r) : Effect s (commitD s r) :=
  effect_settle_bounded Unbounded.dcap herr fun _ h => commits_putD fun _ => h

/-- The encoders of signals: the ticks of a frame, rescaled. -/
theorem effect_commitD_map (s : State) {ticks : Except Err (List Int)} (f : List Int → List Rat)
    (herr : RaisesComputed ticks) : Effect s (commitD s (ticks.map f)) :=
  effect_commitD s (raisesComputed_map f herr)

theorem effect_commitW (s : State) {r : Except Err (List Half)} (herr : RaisesComputed r) : Effect s (commitW s r) :=
  effect_settle_bounded Unbounded.wcap herr fun _ h => commits_putW h

/-- A result no longer than the input needs no capacity test (log 11). -/
theorem effect_putD_of_length_le {s : State} {xs : List Rat} (h : xs.length ≤ s.bufD.length) : Effect s (s.putD xs) :=
  .committed (commits_putD fun ⟨hD, _⟩ => fits_mono h hD)

theorem effect_necEncode (v : NecVariant) (x : NecSuffix) (s : State) : Effect s (necEncode v x s) :=
  effect_commitD_map s _ (raisesComputed_of_domain necFrame_error)

/-- What a command does: a reset, or a computation whose errors and result lengths are those shown above. -/
theorem exec_effect {i : Instr} {s t : State} (h : exec i s = .next t) : Effect s t := by
  cases i
  case reset => cases h; exact .reset
  case u2b =>
    cases h
    exact effect_settle_bounded Unbounded.scap (raisesComputed_of_domain u2b_error)
      fun _ hfit => commits_putS hfit
  case b2u =>
    cases h
    exact effect_settle (raisesComputed_of_domain b2uChecked_error) fun _ => commits_setInt _ _ _
  case bitify => cases h; exact effect_commitD_map s _ (raisesComputed_bitify _ _ _)
  case unbitify => cases h; exact effect_putD_of_length_le (unbitify_length _ _).le
  case simplify => cases h; exact effect_putD_of_length_le (simplify_length_le _)
  case paired => cases h; exact effect_commitD s (raisesComputed_ok _)
  case trimL => cases h; exact effect_putD_of_length_le (trimLeading_length_le _)
  case trimT => cases h; exact effect_putD_of_length_le (trimTrailing_length_le _)
  case repeatSignal =>
    simp only [exec, execRepeatSignal] at h
    split at h <;> cases h
    · exact effect_commitD s (raisesComputed_ok _)
    · exact .committed (commits_refl s)
  case encRc5 =>
    cases h
    exact effect_commitD_map s _ (raisesComputed_of_domain rc5Frame_error)
  case encRc6 =>
    cases h
    exact effect_commitD_map s _ (raisesComputed_of_domain rc6Frame_error)
  case encRca38 =>
    cases h
    exact effect_commitD_map s _ (raisesComputed_of_domain rca38Frame_error)
  case decRc5 =>
    cases h
    exact effect_settle (raisesComputed_rc5Decode _ _) fun _ =>
      commits_of_buffers_eq ⟨rfl, rfl, rfl, rfl, rfl, rfl⟩ rfl ⟨rfl, rfl, rfl, rfl, rfl⟩
  case decRc6 =>
    cases h
    exact effect_settle (raisesComputed_rc6Decode _ _) fun _ =>
      commits_of_buffers_eq ⟨rfl, rfl, rfl, rfl, rfl, rfl⟩ rfl ⟨rfl, rfl, rfl, rfl, rfl⟩
  case blEnc =>
    cases h
    exact effect_settle_bounded Unbounded.bcap (raisesComputed_of_domain blEncode_error)
      fun _ hfit => commits_putB hfit
  case blDec =>
    cases h
    exact effect_settle_bounded Unbounded.dcap (raisesComputed_of_format blDecode_error)
      fun _ hfit => commits_putBl hfit
  case prontoEncDef =>
    cases h
    exact effect_commitW s (raisesComputed_of_domain (prontoEncode_error fun h => by cases h))
  case prontoEncBase =>
    cases h
    exact effect_commitW s (raisesComputed_of_domain (prontoEncode_error prontoClockBase_error))
  case prontoEncFreq =>
    cases h
    exact effect_commitW s (raisesComputed_of_domain (prontoEncode_error prontoClockFreq_error))
  case prontoDec =>
    cases h
    exact effect_settle_bounded Unbounded.dcap (raisesComputed_of_format prontoDecode_error)
      fun _ hfit => commits_of_bufD ⟨rfl, rfl, rfl, rfl, rfl, rfl⟩ (.inl rfl) (fun _ => hfit) ⟨rfl, rfl, rfl, rfl⟩
  -- the twenty NEC encoders
  all_goals cases h; exact effect_necEncode _ _ s

/-- A write of a word to `CMD` does what a command does, or raises IllegalCommand (48_system.md R271). -/
theorem command_effect {c : Word} {s t : State} (h : command c s = .next t) : Effect s t := by
  rcases command_cases c s with ⟨-, h'⟩ | ⟨-, -, h'⟩ | ⟨-, -, i, -, h'⟩ | ⟨-, -, r, -, h'⟩ <;> rw [h'] at h
  · exact exec_effect h
  · cases h; exact .committed (commits_refl s)
  · exact exec_effect h
  · cases h; exact .raised (.inl trivial)

/-- A SET is ignored or commits. -/
theorem unlessFault_effect {s t w : State} (hw : Commits s w) (h : unlessFault s (.next w) = .next t) : Effect s t := by
  rcases unlessFault_cases h with ⟨-, rfl⟩ | ⟨-, h'⟩
  · exact .committed (commits_refl _)
  · cases h'; exact .committed hw

/-- A LOAD is ignored, or commits a content that fits. -/
theorem unlessFault_load_effect {b : Buf} {cap : Option Nat} {n : Nat} {s t w : State}
    (hw : fits cap n = true → Commits s w) (h : unlessFault s (load b cap n w) = .next t) : Effect s t := by
  rcases unlessFault_cases h with ⟨-, rfl⟩ | ⟨-, h'⟩
  · exact .committed (commits_refl _)
  · obtain ⟨hfit, rfl⟩ := load_cases h'
    exact .committed (hw hfit)

theorem performIdle_effect {a : HostAction} {s t : State} (h : performIdle a s = .next t) : Effect s t := by
  cases a with
  | setInt r v => exact unlessFault_effect (commits_setInt s r v) h
  | setRat r v => exact unlessFault_effect (commits_setRat s r v) h
  | loadD xs => exact unlessFault_load_effect (fun hfit => commits_putD fun _ => hfit) h
  | loadE xs => exact unlessFault_load_effect commits_putE h
  | loadB xs => exact unlessFault_load_effect commits_putB h
  | loadW xs => exact unlessFault_load_effect commits_putW h
  | loadS xs => exact unlessFault_load_effect commits_putS h
  | get r => cases h; exact .answered _
  | read b => cases h; exact .answered _
  | cmd c => exact command_effect h
  | hardwareReset => cases h; exact .reset

/-- A step does nothing, or takes an action off the host's list and has one effect. -/
theorem step_effect {s t : State} (h : step s = .next t) : t = s ∨ ∃ rest, Effect (s.withPending rest) t := by
  rcases step_cases h with ⟨-, rfl⟩ | ⟨a, rest, -, ha⟩
  · exact .inl rfl
  · exact .inr ⟨rest, performIdle_effect (perform_cases ha).2⟩

/-! ### The invariant `Safe` -/

/-- After a reset every register `Safe` speaks of is 0 and every buffer is empty (10_state.md R38). -/
theorem safe_clear (s : State) : Safe s.clear := by
  have hstatus : StatusLegal s.clear := ⟨by simp; rfl, by simp, by simp⟩
  have herrors : ErrorsLegal s.clear := by simp [ErrorsLegal]
  exact ⟨hstatus, herrors, by simp [BuffersFit]⟩

/-- Settles O7: the reset state is what a reset makes of itself. -/
theorem resetStateIsSafe : Obligations.ResetStateIsSafe := safe_clear State.reset

/-- A legal `STATUS` has BUSY 0. -/
theorem busy_of_statusLegal {s : State} (h : StatusLegal s) : s.busy = false := by
  rw [State.busy, h.1, statusBusy_statusWord]

/-- Raising an error leaves a legal `STATUS`: FAULT is 1 and the code is one of 1 to 6 (60_exceptions.md R300). -/
theorem statusLegal_raise {s : State} (h : StatusLegal s) (e : Err) : StatusLegal (s.raise e) := by
  refine ⟨?_, ?_, ?_⟩
  · simp [busy_of_statusLegal h]
  · simpa using code_ne_zero e
  · simpa using code_ne_seven e

/-- The three error registers hold what the raised error records (60_exceptions.md R304). -/
theorem errorsLegal_raise {s : State} {e : Err} (h : Raisable s.cfg e) : ErrorsLegal (s.raise e) := by
  cases e with
  | timing d u x =>
    rcases h with hcomputed | ⟨hover, -⟩
    · have hcode : (s.raise (.timing d u x)).err = 2 := raise_err s _
      rw [ErrorsLegal, if_pos hcode]
      exact hcomputed
    · cases hover
  | _ => simp [ErrorsLegal, Err.code, Err.value, Err.unitLength, Err.unitError]

theorem safe_raise {s : State} {e : Err} (h : Raisable s.cfg e) (hs : Safe s) : Safe (s.raise e) := by
  obtain ⟨hstatus, -, hbufs⟩ := hs
  exact ⟨statusLegal_raise hstatus e, errorsLegal_raise h, hbufs⟩

/-- A commit keeps every field of `STATUS` but WARN. -/
theorem flags_of_commits {s t : State} (h : Commits s t) : t.fault = s.fault ∧ t.busy = s.busy ∧ t.err = s.err := by
  rcases h.status with hkept | hwarn
  · obtain ⟨hfault, -, hbusy, herr⟩ := flags_of_status_eq hkept
    exact ⟨hfault, hbusy, herr⟩
  · simp only [State.fault, State.busy, State.err, hwarn]
    exact ⟨statusFault_or_warn _, statusBusy_or_warn _, statusErr_or_warn _⟩

/-- Setting WARN in a legal `STATUS` leaves its other fields, and its reserved bits 0. -/
theorem statusLegal_commits {s t : State} (h : Commits s t) (hs : StatusLegal s) : StatusLegal t := by
  obtain ⟨hword, hcode, hseven⟩ := hs
  obtain ⟨hfault, -, herr⟩ := flags_of_commits h
  refine ⟨?_, by rwa [hfault, herr], by rwa [herr]⟩
  rw [hfault, herr]
  rcases h.status with hkept | hwarn
  · rw [State.warn, hkept, hword]
    simp
  · rw [State.warn, hwarn, statusWarn_or_warn, ← statusWord_or_warn s.fault s.warn, ← hword]

theorem errorsLegal_commits {s t : State} (h : Commits s t) (hs : ErrorsLegal s) : ErrorsLegal t := by
  obtain ⟨-, -, herr⟩ := flags_of_commits h
  rw [ErrorsLegal, herr, h.eValue, h.eUnit, h.eError]
  exact hs

theorem safe_commits {s t : State} (h : Commits s t) (hs : Safe s) : Safe t := by
  obtain ⟨hstatus, herrors, hbufs⟩ := hs
  exact ⟨statusLegal_commits h hstatus, errorsLegal_commits h herrors, h.buffers hbufs⟩

theorem safe_effect {s t : State} (h : Effect s t) (hs : Safe s) : Safe t := by
  cases h with
  | reset => exact safe_clear s
  | raised hraise => exact safe_raise hraise hs
  | committed hcommit => exact safe_commits hcommit hs
  | answered a => exact hs

/-- Settles O8: each effect a step can have keeps `Safe`, and the host's list is no part of it. -/
theorem everyStepKeepsSafe : Obligations.EveryStepKeepsSafe := by
  intro s t hs h
  rcases step_effect h with rfl | ⟨rest, heffect⟩
  · exact hs
  · exact safe_effect heffect hs

/-! ### The configuration, and the one error it decides -/

theorem cfg_effect {s t : State} (h : Effect s t) : t.cfg = s.cfg := by
  cases h with
  | reset => rfl
  | raised => rfl
  | committed hcommit => exact hcommit.cfg
  | answered a => rfl

/-- Settles O9: no effect writes the configuration. -/
theorem noStepChangesTheConfiguration : Obligations.NoStepChangesTheConfiguration := by
  intro s t h
  rcases step_effect h with rfl | ⟨rest, heffect⟩
  · rfl
  · exact (cfg_effect heffect).trans (withPending_cfg s rest)

theorem code_eq_six {e : Err} (h : e.code = 6) : e = .overflow := by
  cases e with
  | overflow => rfl
  | _ => cases h

/-- Overflow is raised by the capacity test alone, which a buffer without a finite capacity passes. -/
theorem not_raisable_overflow {c : Config} (hc : Unbounded c) : ¬ Raisable c .overflow := by
  rintro (hcomputed | ⟨-, hfinite⟩)
  · exact hcomputed
  · exact hfinite hc

theorem err_ne_overflow_effect {s t : State} (hc : Unbounded s.cfg) (hs : s.err ≠ 6) (h : Effect s t) : t.err ≠ 6 := by
  cases h with
  | reset => rw [clear_err]; decide
  | raised hraise =>
    rw [raise_err]
    intro hcode
    exact not_raisable_overflow hc (code_eq_six hcode ▸ hraise)
  | committed hcommit =>
    obtain ⟨-, -, herr⟩ := flags_of_commits hcommit
    rwa [herr]
  | answered a => exact hs

/-- Settles O20: the effect of a command records code 6 only where Overflow can be raised. -/
theorem overflowNeedsAFiniteCapacity : Obligations.OverflowNeedsAFiniteCapacity := by
  intro i s t hD hE hB hW hS hs h
  exact err_ne_overflow_effect ⟨hD, hE, hB, hW, hS⟩ hs (exec_effect h)

/-! ### Reset -/

/-- Settles O1: the table of R38, row by row. -/
theorem resetStateHoldsTheTableOfResetValues : Obligations.ResetStateHoldsTheTableOfResetValues := by
  refine ⟨?_, ?_, ?_, rfl, rfl, rfl, rfl, rfl, rfl⟩
  · decide
  · decide
  · rfl

theorem clear_withPending (s : State) (rest : List HostAction) : (s.withPending rest).clear = afterReset s rest := rfl

/-- A block that is not busy performs every action (20_memory.md R67). -/
theorem step_of_idle {s : State} {a : HostAction} {rest : List HostAction} (hb : s.busy = false)
    (h : s.pending = a :: rest) : step s = performIdle a (s.withPending rest) := by
  rw [step_of_pending h, perform, withPending_busy, hb]
  rfl

/-- The word of RESET is accepted in every state (48_system.md R271). -/
theorem command_reset (s : State) : command 0x00000001#32 s = .next s.clear := if_pos (by decide)

/-- Settles O2: RESET and the hardware reset are `State.clear`, which gives the table of R38. -/
theorem resetIsAcceptedInEveryState : Obligations.ResetIsAcceptedInEveryState := by
  refine ⟨fun s => rfl, fun s rest hb h => ?_, fun s rest h => ?_⟩
  · rw [step_of_idle hb h, ← clear_withPending]
    exact command_reset _
  · rw [step_of_pending h, ← clear_withPending, perform]
    simp [allowedWhileBusy, performIdle]

/-! ### GET and READ, SET, LOAD (20_memory.md R52) -/

/-- Settles O13: the answer is the named register, length or buffer, entry by entry. -/
theorem hostReadsAnswerAndChangeNothing : Obligations.HostReadsAnswerAndChangeNothing := by
  refine fun s rest hb => ⟨fun p hp h => ?_, fun p hp h => ?_⟩
  · have hanswer : s.getReg p.1 = p.2 := by fin_cases hp <;> rfl
    rw [step_of_idle hb h, ← hanswer]
    rfl
  · have hanswer : s.readBuf p.1 = p.2 := by fin_cases hp <;> rfl
    rw [step_of_idle hb h, ← hanswer]
    rfl

@[simp] theorem setInt_readBuf (s : State) (r : IntReg) (v : Word) (b : Buf) :
    (s.setInt r v).readBuf b = s.readBuf b := by
  cases b <;> simp [State.readBuf]

@[simp] theorem setRat_readBuf (s : State) (r : RatReg) (v : Rat) (b : Buf) :
    (s.setRat r v).readBuf b = s.readBuf b := by
  cases b <;> simp [State.readBuf]

@[simp] theorem setInt_bufLength (s : State) (r : IntReg) (v : Word) (b : Buf) :
    (s.setInt r v).bufLength b = s.bufLength b := by
  cases b <;> simp [State.bufLength]

@[simp] theorem setRat_bufLength (s : State) (r : RatReg) (v : Rat) (b : Buf) :
    (s.setRat r v).bufLength b = s.bufLength b := by
  cases b <;> simp [State.bufLength]

/-- A SET of an integer register is not seen by any other GET. -/
theorem setInt_getReg_other (s : State) {r : IntReg} (v : Word) {q : Reg} (h : q ≠ .int r) :
    (s.setInt r v).getReg q = s.getReg q := by
  cases q with
  | int q =>
    have hq : q ≠ r := fun hqr => h (congrArg Reg.int hqr)
    simp only [State.getReg, setInt_intReg_other s r q v hq]
  | _ => simp [State.getReg]

/-- A SET of a rational register is not seen by any other GET. -/
theorem setRat_getReg_other (s : State) {r : RatReg} (v : Rat) {q : Reg} (h : q ≠ .rat r) :
    (s.setRat r v).getReg q = s.getReg q := by
  cases q with
  | rat q =>
    have hq : q ≠ r := fun hqr => h (congrArg Reg.rat hqr)
    simp only [State.getReg, setRat_ratReg_other s r q v hq]
  | _ => simp [State.getReg]

/-- In IDLE a SET or a LOAD is not ignored (60_exceptions.md R305). -/
theorem unlessFault_of_idle {s : State} (hf : s.fault = false) (r : Result) : unlessFault s r = r := by
  simp [unlessFault, hf]

theorem unlessFault_load_of_room {s t : State} {b : Buf} {cap : Option Nat} {n : Nat} (hf : s.fault = false)
    (h : room cap n = true) : unlessFault s (load b cap n t) = .next t := by
  rw [unlessFault_of_idle hf, load, fits_eq_room, h]
  rfl

/-- Settles O14: the step is `State.setInt` or `State.setRat` of the register named. -/
theorem hostSetWritesOneRegister : Obligations.HostSetWritesOneRegister := by
  refine fun s rest hb hf => ⟨fun r v h => ⟨(s.withPending rest).setInt r v, ?_, ?_, fun q hq => ?_, fun b => ?_, ?_⟩,
    fun r v h => ⟨(s.withPending rest).setRat r v, ?_, ?_, fun q hq => ?_, fun b => ?_, ?_⟩⟩
  · rw [step_of_idle hb h]; exact unlessFault_of_idle (s := s.withPending rest) hf _
  · simp [State.getReg]
  · exact setInt_getReg_other _ v hq
  · exact setInt_readBuf _ r v b
  · simp
  · rw [step_of_idle hb h]; exact unlessFault_of_idle (s := s.withPending rest) hf _
  · simp [State.getReg]
  · exact setRat_getReg_other _ v hq
  · exact setRat_readBuf _ r v b
  · simp

/-- Settles O15: each LOAD is the replacement of its buffer, given IDLE and the room. -/
theorem hostLoadReplacesTheWholeBuffer : Obligations.HostLoadReplacesTheWholeBuffer := by
  refine fun s rest hb hf => ⟨fun xs h hroom => ?_, fun xs h hroom => ?_, fun xs h hroom => ?_, fun xs h hroom => ?_,
    fun xs h hroom => ?_⟩
  all_goals rw [step_of_idle hb h]; exact unlessFault_load_of_room hf hroom

end Sys2Proof.Proofs
end

section
/-! PROOFS. The statements of 20_memory.md: the actions the host may not perform (R52, R67), the bit order of `S` (R59),
and the Broadlink stream whose length field is little-endian (R56). -/

namespace Sys2Proof.Proofs

open Sys2Proof.Machine Sys2Proof.Claims

/-! ### Host actions outside the model (R52, R67) -/

/-- The only actions a busy block accepts are `GET STATUS` and the hardware reset. -/
theorem allowedWhileBusy_eq_false {a : HostAction} (hget : a ≠ .get .status) (hreset : a ≠ .hardwareReset) :
    allowedWhileBusy a = false := by
  cases a
  case get r =>
    cases r
    case status => exact absurd rfl hget
    all_goals rfl
  case hardwareReset => exact absurd rfl hreset
  all_goals rfl

theorem step_of_busy {s : State} {a : HostAction} {rest : List HostAction} (hb : s.busy = true)
    (h : s.pending = a :: rest) (ha : allowedWhileBusy a = false) : step s = .refused .hostAccessWhileBusy := by
  rw [step_of_pending h, perform, withPending_busy, hb, ha]
  rfl

theorem unlessFault_load_of_no_room {s t : State} {b : Buf} {cap : Option Nat} {n : Nat} (hf : s.fault = false)
    (h : room cap n = false) : unlessFault s (load b cap n t) = .refused (.loadOverCapacity b) := by
  rw [unlessFault_of_idle hf, load, fits_eq_room, h]
  rfl

/-- Settles O17: `perform` tests BUSY first, and each idle LOAD ends in the capacity test of its own buffer. -/
theorem actionsOutsideTheModelAreRefused : Obligations.ActionsOutsideTheModelAreRefused := by
  refine ⟨fun s a rest hb h hget hreset => step_of_busy hb h (allowedWhileBusy_eq_false hget hreset),
    fun s rest hb hf => ⟨fun xs h hroom => ?_, fun xs h hroom => ?_, fun xs h hroom => ?_, fun xs h hroom => ?_,
      fun xs h hroom => ?_⟩⟩
  all_goals rw [step_of_idle hb h]; exact unlessFault_load_of_no_room hf hroom

/-! ### B2U (40_primitives.md R103; the first symbol of `S` is the most significant, R59) -/

/-- Folding on from `v` moves `v` up by the places of the string and adds the string's value. -/
theorem foldl_b2uStep_eq (bits : List Bool) (v : Nat) :
    bits.foldl b2uStep v = v * 2 ^ bits.length + bitsValue bits := by
  induction bits generalizing v with
  | nil => simp [bitsValue]
  | cons b bits ih =>
    rw [List.foldl_cons, ih, bitsValue, List.length_cons]
    cases b <;> simp only [b2uStep, Bool.toNat_true, Bool.toNat_false, if_true, Bool.false_eq_true, if_false] <;> ring

/-- The fold of B2U weights each symbol by its place. -/
theorem b2u_eq_bitsValue (bits : List Bool) : b2u bits = bitsValue bits := by
  rw [b2u, foldl_b2uStep_eq, zero_mul, zero_add]

theorem bitsValue_lt (bits : List Bool) : bitsValue bits < 2 ^ bits.length :=
  b2u_eq_bitsValue bits ▸ b2u_lt bits

theorem b2uChecked_of_le {bits : List Bool} (h : bits.length ≤ 31) : b2uChecked bits = .ok (bitsValue bits) := by
  rw [b2uChecked, if_neg (by unfold pw; omega), b2u_eq_bitsValue]

theorem b2uChecked_of_gt {bits : List Bool} (h : 31 < bits.length) : b2uChecked bits = .error .domain :=
  if_pos (by unfold pw; omega)

theorem exec_b2u (s : State) :
    exec .b2u s = .next (settle s (b2uChecked s.bufS) fun v => s.setInt .value (BitVec.ofNat 32 v)) := rfl

/-- Settles O23, by the length of the string; 31 symbols keep the value below the sign bit of `P_VALUE`. -/
theorem b2uReadsTheValueOfTheString : Obligations.B2uReadsTheValueOfTheString := by
  refine fun s => ⟨fun hle => ⟨?_, ?_⟩, fun hgt => ?_⟩
  · rw [exec_b2u, b2uChecked_of_le hle]; rfl
  · calc bitsValue s.bufS < 2 ^ s.bufS.length := bitsValue_lt s.bufS
      _ ≤ 2 ^ 31 := Nat.pow_le_pow_right (by decide) hle
  · rw [exec_b2u, b2uChecked_of_gt hgt, ← raise_domain]; rfl

/-! ### BL.DEC (46_broadlink.md R220 to R226) -/

theorem toNat_ofNat_byte {n : Nat} (h : n < 256) : (BitVec.ofNat 8 n).toNat = n :=
  (BitVec.toNat_ofNat n 8).trans (Nat.mod_eq_of_lt h)

/-- The little-endian length field of a payload of up to 65535 bytes is read back exactly (R56). -/
theorem blLength_ofNat {n : Nat} (h : n ≤ 65535) :
    blLength (BitVec.ofNat 8 (n % 256)) (BitVec.ofNat 8 (n / 256)) = n := by
  rw [blLength, toNat_ofNat_byte (by omega), toNat_ofNat_byte (by omega), Nat.mod_add_div]

/-- One byte that is not zero is a magnitude of its own. -/
theorem blMagnitudes_cons {b : Byte} (hb : b ≠ 0#8) (rest : List Byte) :
    blMagnitudes (b :: rest) = (blMagnitudes rest).map (b.toNat :: ·) := by
  rw [blMagnitudes.eq_def]
  simp only [if_pos hb]
  cases blMagnitudes rest <;> rfl

/-- A zero byte and the two after it are a big-endian magnitude (30_encoding.md R88). -/
theorem blMagnitudes_escape (high low : Byte) (rest : List Byte) :
    blMagnitudes (0#8 :: high :: low :: rest)
      = (blMagnitudes rest).map ((256 * high.toNat + low.toNat) :: ·) := by
  rw [blMagnitudes.eq_def]
  simp only [ne_eq, not_true_eq_false, if_false]
  cases blMagnitudes rest <;> rfl

/-- An entry in either form is read as its magnitude (30_encoding.md R88; 46_broadlink.md R220). -/
theorem blMagnitudes_entryForm {m : Nat} {escaped : Bool} (hm : m ≤ 65535) (hone : escaped = false → 1 ≤ m ∧ m ≤ 255)
    (rest : List Byte) : blMagnitudes (entryForm m escaped ++ rest) = (blMagnitudes rest).map (m :: ·) := by
  cases escaped with
  | true =>
    have hvalue : 256 * (BitVec.ofNat 8 (m / 256)).toNat + (BitVec.ofNat 8 (m % 256)).toNat = m := by
      rw [toNat_ofNat_byte (by omega), toNat_ofNat_byte (by omega), Nat.div_add_mod]
    exact (blMagnitudes_escape _ _ rest).trans (by rw [hvalue])
  | false =>
    obtain ⟨hpos, hbyte⟩ := hone rfl
    have hvalue : (BitVec.ofNat 8 m).toNat = m := toNat_ofNat_byte (by omega)
    have hnonzero : BitVec.ofNat 8 m ≠ 0#8 := fun h0 => by
      rw [h0, BitVec.toNat_zero] at hvalue
      omega
    exact (blMagnitudes_cons hnonzero rest).trans (by rw [hvalue])

/-- The entries at the front of a payload are read in order, whatever follows them. -/
theorem blMagnitudes_payloadOf_append {es : List (Nat × Bool)} (hes : EntriesOk es) (rest : List Byte) :
    blMagnitudes (payloadOf es ++ rest) = (blMagnitudes rest).map (es.map (·.1) ++ ·) := by
  induction es with
  | nil => cases h : blMagnitudes rest <;> simp [payloadOf, h, Except.map]
  | cons p es ih =>
    obtain ⟨hp, htail⟩ := List.forall_mem_cons.mp hes
    obtain ⟨hm, hone⟩ := hp
    have hcons : payloadOf (p :: es) ++ rest = entryForm p.1 p.2 ++ (payloadOf es ++ rest) := by
      simp [payloadOf]
    rw [hcons, blMagnitudes_entryForm hm hone, ih htail]
    cases blMagnitudes rest <;> rfl

theorem blMagnitudes_payloadOf {es : List (Nat × Bool)} (hes : EntriesOk es) :
    blMagnitudes (payloadOf es) = .ok (es.map (·.1)) := by
  simpa [blMagnitudes, Except.map] using blMagnitudes_payloadOf_append hes []

/-- The decoder of a stream takes it apart into repeat byte, payload and the bytes after it. -/
theorem blDecode_blBytes (tie : RoundTie) (rep : Byte) {payload : List Byte} (hlen : payload.length ≤ 65535)
    (tail : List Byte) :
    blDecode tie (blBytes rep payload tail) = (blMagnitudes payload).map fun ms =>
      { repeats := rep, durations := blDurations tie true ms, warning := tail.any fun b => b != 0#8 } := by
  simp only [blDecode, blBytes, List.cons_append, List.nil_append, List.head?_cons, ne_eq, not_true_eq_false, if_false,
    blDecodeBody, blLength_ofNat hlen, List.take_left, List.drop_left]
  rw [if_neg (by simp)]
  cases blMagnitudes payload <;> rfl

theorem ite_neg_eq_placeSign_mul (k : Nat) (x : Rat) : (if k % 2 = 0 then x else -x) = placeSign k * x := by
  unfold placeSign
  split <;> ring

/-- The signs alternate from place `k` on, a mark at every even place (46_broadlink.md R224). -/
theorem blDurations_eq_mapIdx (tie : RoundTie) (k : Nat) (ms : List Nat) :
    blDurations tie (decide (k % 2 = 0)) ms
      = ms.mapIdx fun j (m : Nat) => placeSign (k + j) * (roundRat tie ((m : Rat) * 8192 / 269) : Rat) := by
  induction ms generalizing k with
  | nil => rfl
  | cons m ms ih =>
    have hnext : (!decide (k % 2 = 0)) = decide ((k + 1) % 2 = 0) := by
      rw [← decide_not]; exact decide_eq_decide.mpr (by omega)
    have hscale : (m : Rat) * blUnscale = (m : Rat) * 8192 / 269 := by unfold blUnscale; ring
    rw [blDurations, hnext, ih, List.mapIdx_cons, hscale]
    refine congrArg₂ List.cons ?_ ?_
    · simp only [decide_eq_true_eq, ite_neg_eq_placeSign_mul, add_zero]
    · simp only [Nat.add_assoc, Nat.add_comm 1]

/-- `blSignal` casts its magnitudes to rationals before it numbers them; the cast may as well come after. -/
theorem blSignal_eq_mapIdx (tie : RoundTie) (ms : List Nat) :
    blSignal tie ms = ms.mapIdx fun k (m : Nat) => placeSign k * (roundRat tie ((m : Rat) * 8192 / 269) : Rat) := by
  have hcast : (do let m ← ms; pure (m : Rat)) = ms.map fun m : Nat => (m : Rat) := List.map_eq_flatMap.symm
  rw [blSignal, hcast]
  exact List.ext_getElem (by simp) (by simp)

theorem blDurations_eq_blSignal (tie : RoundTie) (ms : List Nat) : blDurations tie true ms = blSignal tie ms := by
  simpa [blSignal_eq_mapIdx] using blDurations_eq_mapIdx tie 0 ms

@[simp] theorem blSignal_length (tie : RoundTie) (ms : List Nat) : (blSignal tie ms).length = ms.length := by
  simp [blSignal_eq_mapIdx]

/-- The writes of BL.DEC in the words of the claims: WARN is set unless every byte of the tail is zero (R226). -/
theorem putBl_eq_blDecoded (s : State) (rep : Byte) (ms : List Nat) (tail : List Byte) :
    s.putBl { repeats := rep, durations := blSignal s.cfg.roundTie ms, warning := tail.any fun b => b != 0#8 }
      = blDecoded s rep ms tail := by
  have hwarn : (tail.any fun b => b != 0#8) = !tail.all (· = 0#8) := by
    rw [List.not_all_eq_any_not]; rfl
  rw [hwarn, State.putBl, blDecoded]
  cases tail.all (· = 0#8) <;> rfl

theorem exec_blDec (s : State) :
    exec .blDec s = .next (settle s
      (bounded s.cfg.dcap (fun c => c.durations.length) (blDecode s.cfg.roundTie s.bufB)) s.putBl) := rfl

/-- Settles O53: the stream is taken apart, its entries are read, and the Durations meet the capacity test. -/
theorem blDecReadsTheStream : Obligations.BlDecReadsTheStream := by
  intro s rep es tail hes hlen hB
  have hdecode : blDecode s.cfg.roundTie s.bufB = .ok
      { repeats := rep, durations := blSignal s.cfg.roundTie (es.map (·.1)), warning := tail.any fun b => b != 0#8 } := by
    rw [hB, blDecode_blBytes _ _ hlen, blMagnitudes_payloadOf hes, ← blDurations_eq_blSignal]
    rfl
  rw [exec_blDec, hdecode]
  refine ⟨fun hroom => ?_, fun hroom => ?_⟩
  · rw [settle_bounded_of_room (by simpa using hroom), putBl_eq_blDecoded]
  · rw [settle_bounded_of_no_room (by simpa using hroom)]

end Sys2Proof.Proofs
end

section
/-! PROOFS. The statements of 30_encoding.md, first the command words (R70 to R73, R76): decoding, encoding and the field
rules agree on the 41 legal words. -/

namespace Sys2Proof.Proofs

open Sys2Proof.Machine Sys2Proof.Claims Sys2Proof.Laws

/-! ### A command's word decodes to it, and no other word does -/

/-- The family of round trips, for a command that is not fixed (30_encoding.md R70 to R73). -/
theorem decode_encode (i : Instr) : decode (encode i) = .ok i := by
  cases i
  exacts [RoundTrip.reset, RoundTrip.u2b, RoundTrip.b2u, RoundTrip.bitify, RoundTrip.unbitify, RoundTrip.simplify,
    RoundTrip.paired, RoundTrip.trimL, RoundTrip.trimT, RoundTrip.repeatSignal,
    RoundTrip.encNec1, RoundTrip.encNec2, RoundTrip.encNecx1, RoundTrip.encNecx2,
    RoundTrip.encNec1Y1, RoundTrip.encNec2Y1, RoundTrip.encNecx1Y1, RoundTrip.encNecx2Y1,
    RoundTrip.encNec1Y2, RoundTrip.encNec2Y2, RoundTrip.encNecx1Y2, RoundTrip.encNecx2Y2,
    RoundTrip.encNec1Y3, RoundTrip.encNec2Y3, RoundTrip.encNecx1Y3, RoundTrip.encNecx2Y3,
    RoundTrip.encNec1F16, RoundTrip.encNec2F16, RoundTrip.encNecx1F16, RoundTrip.encNecx2F16,
    RoundTrip.encRc5, RoundTrip.encRc6, RoundTrip.encRca38, RoundTrip.decRc5, RoundTrip.decRc6,
    RoundTrip.blEnc, RoundTrip.blDec,
    RoundTrip.prontoEncDef, RoundTrip.prontoEncBase, RoundTrip.prontoEncFreq, RoundTrip.prontoDec]

theorem mem_of_lookupWord {w : Word} {i : Instr} {rows : List (Word × Instr)} (h : lookupWord w rows = some i) :
    (w, i) ∈ rows := by
  induction rows with
  | nil => cases h
  | cons row rows ih =>
    rw [lookupWord] at h
    split at h
    case isTrue hrow => cases h; subst hrow; exact List.mem_cons_self
    case isFalse => exact List.mem_cons_of_mem _ (ih h)

/-- The list of whole words and the encoder of fields give each command the same word. -/
theorem legalWords_eq_encode : ∀ row ∈ legalWords, row.1 = encode row.2 := by decide

theorem eq_encode_of_decode {w : Word} {i : Instr} (h : decode w = .ok i) : w = encode i := by
  unfold decode at h
  split at h
  case h_1 hlookup => cases h; exact legalWords_eq_encode _ (mem_of_lookupWord hlookup)
  case h_2 => cases h

theorem decode_eq_ok_iff (w : Word) (i : Instr) : decode w = .ok i ↔ w = encode i :=
  ⟨eq_encode_of_decode, fun h => h ▸ decode_encode i⟩

/-! ### The fields of a legal word are those of a command -/

theorem legalWord_encode (i : Instr) : legalWord (encode i) = true := by cases i <;> rfl

/-- A word with its reserved bits clear is its two fields (30_encoding.md R70). -/
theorem eq_commandWord_of_reservedClear {w : Word} (h : reservedClear w = true) :
    w = commandWord (opField w) (modField w) := by
  have hreserved : w.extractLsb' 16 16 = 0#16 := by simpa [reservedClear] using h
  rw [commandWord, ← hreserved, modField, opField, BitVec.extractLsb'_append_extractLsb'_eq_extractLsb' (by decide),
    BitVec.extractLsb'_append_extractLsb'_eq_extractLsb' (by decide), BitVec.extractLsb'_eq_self]

theorem exists_variantCode {n : Nat} (h : n < 4) : ∃ v, variantCode v = n :=
  match n, h with
  | 0, _ => ⟨.nec1, rfl⟩
  | 1, _ => ⟨.nec2, rfl⟩
  | 2, _ => ⟨.necx1, rfl⟩
  | 3, _ => ⟨.necx2, rfl⟩

theorem exists_suffixCode {n : Nat} (h : n ≤ 4) : ∃ x, suffixCode x = n :=
  match n, h with
  | 0, _ => ⟨.standard, rfl⟩
  | 1, _ => ⟨.y1, rfl⟩
  | 2, _ => ⟨.y2, rfl⟩
  | 3, _ => ⟨.y3, rfl⟩
  | 4, _ => ⟨.f16, rfl⟩

/-- A modifier R73 allows is `variant + 4 · suffix` of some variant and suffix. -/
theorem exists_necModifier {mod : Byte} (h : necModifierAllowed mod = true) : ∃ v x, mod = necModifier v x := by
  obtain ⟨htop, hsuffix⟩ : (mod.extractLsb' 5 3).toNat = 0 ∧ (mod.extractLsb' 2 3).toNat ≤ 4 := by
    simpa [necModifierAllowed, ← BitVec.toNat_inj] using h
  rw [BitVec.extractLsb'_toNat, Nat.shiftRight_eq_div_pow] at htop hsuffix
  obtain ⟨v, hv⟩ := exists_variantCode (Nat.mod_lt mod.toNat (by decide : 4 > 0))
  obtain ⟨x, hx⟩ := exists_suffixCode (n := mod.toNat / 4) (by omega)
  refine ⟨v, x, BitVec.eq_of_toNat_eq ?_⟩
  rw [necModifier, hv, hx, Nat.mod_add_div, BitVec.ofNat_toNat, BitVec.setWidth_eq]

theorem fields_necInstr (v : NecVariant) (x : NecSuffix) : (necInstr v x).fields = (0x30#8, necModifier v x) := by
  cases v <;> cases x <;> rfl

/-- An `OP` whose only modifier is 0 (30_encoding.md R72). -/
theorem eq_zero_of_modAllowed {op mod : Byte} (h : modAllowed op mod = true) (htrim : op ≠ 0x22#8)
    (hpronto : op ≠ 0x48#8) (hnec : op ≠ 0x30#8) : mod = 0#8 := by
  simpa [modAllowed, htrim, hpronto, hnec] using h

/-- Every pair of fields R71 to R73 allow belongs to a command. -/
theorem exists_fields {op mod : Byte} (hop : opKnown op = true) (hmod : modAllowed op mod = true) :
    ∃ i : Instr, i.fields = (op, mod) := by
  by_cases htrim : op = 0x22#8
  · subst htrim
    have hside : mod.toNat ≤ 1 := by simpa [modAllowed] using hmod
    rcases (by bv_omega : mod = 0#8 ∨ mod = 1#8) with rfl | rfl
    exacts [⟨.trimL, rfl⟩, ⟨.trimT, rfl⟩]
  by_cases hpronto : op = 0x48#8
  · subst hpronto
    have hclock : mod.toNat ≤ 2 := by simpa [modAllowed] using hmod
    rcases (by bv_omega : mod = 0#8 ∨ mod = 1#8 ∨ mod = 2#8) with rfl | rfl | rfl
    exacts [⟨.prontoEncDef, rfl⟩, ⟨.prontoEncBase, rfl⟩, ⟨.prontoEncFreq, rfl⟩]
  by_cases hnec : op = 0x30#8
  · subst hnec
    obtain ⟨v, x, rfl⟩ := exists_necModifier (by simpa [modAllowed] using hmod)
    exact ⟨necInstr v x, fields_necInstr v x⟩
  obtain rfl := eq_zero_of_modAllowed hmod htrim hpronto hnec
  simp only [opKnown, List.contains_iff_mem, List.mem_cons, List.not_mem_nil, or_false, htrim, hpronto, hnec,
    false_or] at hop
  rcases hop with rfl | rfl | rfl | rfl | rfl | rfl | rfl | rfl | rfl | rfl | rfl | rfl | rfl | rfl | rfl | rfl
  exacts [⟨.reset, rfl⟩, ⟨.u2b, rfl⟩, ⟨.b2u, rfl⟩, ⟨.bitify, rfl⟩, ⟨.unbitify, rfl⟩, ⟨.simplify, rfl⟩, ⟨.paired, rfl⟩,
    ⟨.repeatSignal, rfl⟩, ⟨.encRc5, rfl⟩, ⟨.encRc6, rfl⟩, ⟨.encRca38, rfl⟩, ⟨.decRc5, rfl⟩, ⟨.decRc6, rfl⟩,
    ⟨.blEnc, rfl⟩, ⟨.blDec, rfl⟩, ⟨.prontoDec, rfl⟩]

theorem exists_encode_of_legalWord {w : Word} (h : legalWord w = true) : ∃ i, w = encode i := by
  simp only [legalWord, Bool.and_eq_true] at h
  obtain ⟨⟨hreserved, hop⟩, hmod⟩ := h
  obtain ⟨i, hi⟩ := exists_fields hop hmod
  exact ⟨i, by rw [encode, hi]; exact eq_commandWord_of_reservedClear hreserved⟩

/-- Settles O4: the list of words agrees with the encoder row by row, and the fields a legal word may have are those the
commands have. -/
theorem decodeAndEncodeAgreeOnExactlyTheLegalWords : Obligations.DecodeAndEncodeAgreeOnExactlyTheLegalWords := by
  refine ⟨decode_eq_ok_iff, fun w => ⟨fun ⟨i, hi⟩ => ?_, fun h => ?_⟩⟩
  · rw [eq_encode_of_decode hi]
    exact legalWord_encode i
  · obtain ⟨i, rfl⟩ := exists_encode_of_legalWord h
    exact ⟨i, decode_encode i⟩

/-- Settles O5: the words are the encodings of the ten commands. -/
theorem writtenOutWordsDecode : Obligations.WrittenOutWordsDecode := by
  show List.map _ ([Instr.reset, .bitify, .simplify, .trimT, .encNecx2Y3, .encRc5, .decRc6, .encRca38, .blDec,
    .prontoEncFreq].map encode) = _
  simp only [List.map_cons, List.map_nil, decode_encode, Except.toOption]

end Sys2Proof.Proofs
end

section
/-! PROOFS. The statements of 30_encoding.md on frames of ticks: ENC.RC6 (R80, R82, R85) and ENC.RCA38 (R81, R82, R86). -/

namespace Sys2Proof.Proofs

open Sys2Proof.Machine Sys2Proof.Claims

/-! ### A field of a frame (30_encoding.md R82) -/

theorem field_of_fieldRange {v : Int} {w : Nat} (hw : w ≤ 31) (h : fieldRange v w) (code : Bool → List Int) :
    field v w code = .ok ((msbBits w v).flatMap code) := by
  rw [field, u2b_of_fieldRange hw h]
  rfl

theorem fieldRange_of_field_eq_ok {v : Int} {w : Nat} {code : Bool → List Int} {ticks : List Int}
    (h : field v w code = .ok ticks) : fieldRange v w := by
  by_contra hout
  rw [field, u2b_of_out_of_range (.inr (.inr hout))] at h
  cases h

/-- Bits whose symbols are `k` elements each. -/
theorem length_flatMap_of_length_eq {code : Bool → List Int} {k : Nat} (hcode : ∀ b, (code b).length = k)
    (bits : List Bool) : (bits.flatMap code).length = bits.length * k := by
  simp [List.length_flatMap, hcode]

/-! ### An encoder of frames -/

theorem rescale_eq_inUnits (ticks : List Int) (u : Rat) : rescale ticks u = inUnits u ticks := by
  simp [rescale, unbitify, ticksToD, inUnits]

/-- The three outcomes of an encoder whose frame has `n` ticks and is refused exactly when its operands are
(60_exceptions.md R303: DomainError before Overflow). -/
theorem commitD_frame_spec {accepts : Prop} {frame : Except Err (List Int)} {ticks : List Int} {n : Nat} (s : State)
    (u : Rat) (hlen : ticks.length = n) (haccepts : accepts → frame = .ok ticks)
    (hrefuses : ¬ accepts → frame = .error .domain) :
    (accepts → room s.cfg.dcap n = true →
        commitD s (frame.map fun ticks => rescale ticks u) = { s with bufD := inUnits u ticks })
      ∧ (¬ accepts → commitD s (frame.map fun ticks => rescale ticks u) = domainError s)
      ∧ (accepts → room s.cfg.dcap n = false → commitD s (frame.map fun ticks => rescale ticks u) = overflow s) := by
  have hsize : (rescale ticks u).length = n := (rescale_length ticks u).trans hlen
  refine ⟨fun h hroom => ?_, fun h => ?_, fun h hroom => ?_⟩
  · rw [haccepts h, ← rescale_eq_inUnits]
    exact settle_bounded_of_room (by rwa [hsize])
  · rw [hrefuses h, ← raise_domain]
    rfl
  · rw [haccepts h]
    exact settle_bounded_of_no_room (by rwa [hsize])

/-! ### ENC.RC6 (44_rc6.md R180; 30_encoding.md R80, R85) -/

theorem rc6Frame_of_accepts {dev fn tg mode : Int} (h : Rc6Accepts dev fn tg mode) :
    rc6Frame dev fn tg mode = .ok (rc6Ticks dev fn tg mode) := by
  obtain ⟨hmode, htoggle, hdev, hfn⟩ := h
  have modeOk : field mode 3 rc6Bit = _ := field_of_fieldRange (by decide) hmode _
  have toggleOk : field tg 1 rc6Tog = _ := field_of_fieldRange (by decide) htoggle _
  have devOk : field dev 8 rc6Bit = _ := field_of_fieldRange (by decide) hdev _
  have fnOk : field fn 8 rc6Bit = _ := field_of_fieldRange (by decide) hfn _
  simp only [rc6Frame, modeOk, toggleOk, devOk, fnOk, rc6Ticks, List.flatMap_append, List.append_assoc]
  rfl

theorem rc6Accepts_of_frame_eq_ok {dev fn tg mode : Int} {ticks : List Int} (h : rc6Frame dev fn tg mode = .ok ticks) :
    Rc6Accepts dev fn tg mode := by
  unfold rc6Frame at h
  repeat' split at h
  all_goals cases h
  exact ⟨fieldRange_of_field_eq_ok ‹field mode 3 _ = _›, fieldRange_of_field_eq_ok ‹field tg 1 _ = _›,
    fieldRange_of_field_eq_ok ‹field dev 8 _ = _›, fieldRange_of_field_eq_ok ‹field fn 8 _ = _›⟩

theorem rc6Frame_of_not_accepts {dev fn tg mode : Int} (h : ¬ Rc6Accepts dev fn tg mode) :
    rc6Frame dev fn tg mode = .error .domain := by
  cases hframe : rc6Frame dev fn tg mode with
  | error e => rw [rc6Frame_error hframe]
  | ok ticks => exact absurd (rc6Accepts_of_frame_eq_ok hframe) h

theorem rc6Ticks_length (dev fn tg mode : Int) : (rc6Ticks dev fn tg mode).length = 45 := by
  simp only [rc6Ticks, List.length_append]
  rw [length_flatMap_of_length_eq (k := 2) (by decide), length_flatMap_of_length_eq (k := 2) (by decide),
    length_flatMap_of_length_eq (k := 2) (by decide)]
  simp

/-- Settles O44: the four fields are checked in frame order, and the 45 ticks meet the capacity test. -/
theorem encRc6WritesItsFrame : Obligations.EncRc6WritesItsFrame := by
  intro s
  obtain ⟨hwrites, hrefuses, hoverflows⟩ :=
    commitD_frame_spec s uRc6 (rc6Ticks_length _ _ _ _) rc6Frame_of_accepts rc6Frame_of_not_accepts
  exact ⟨fun h hroom => congrArg _ (hwrites h hroom), fun h => congrArg _ (hrefuses h),
    fun h hroom => congrArg _ (hoverflows h hroom)⟩

/-! ### ENC.RCA38 (45_rca38.md R200, R201; 30_encoding.md R81, R86) -/

theorem rca38Frame_of_accepts {dev fn : Int} (h : Rca38Accepts dev fn) :
    rca38Frame dev fn = .ok (rca38Ticks dev fn) := by
  obtain ⟨hdev, hfn⟩ := h
  have hinv : rcaInv = fun b => if b then [1, -2] else [1, -4] := by funext b; cases b <;> rfl
  have devOk (code) : field dev 4 code = _ := field_of_fieldRange (by decide) hdev code
  have fnOk (code) : field fn 8 code = _ := field_of_fieldRange (by decide) hfn code
  simp only [rca38Frame, devOk, fnOk, hinv, rca38Ticks, List.flatMap_append, List.append_assoc]
  rfl

theorem rca38Accepts_of_frame_eq_ok {dev fn : Int} {ticks : List Int} (h : rca38Frame dev fn = .ok ticks) :
    Rca38Accepts dev fn := by
  unfold rca38Frame at h
  repeat' split at h
  all_goals cases h
  exact ⟨fieldRange_of_field_eq_ok ‹field dev 4 rcaBit = _›, fieldRange_of_field_eq_ok ‹field fn 8 rcaBit = _›⟩

theorem rca38Frame_of_not_accepts {dev fn : Int} (h : ¬ Rca38Accepts dev fn) :
    rca38Frame dev fn = .error .domain := by
  cases hframe : rca38Frame dev fn with
  | error e => rw [rca38Frame_error hframe]
  | ok ticks => exact absurd (rca38Accepts_of_frame_eq_ok hframe) h

theorem rca38Ticks_length (dev fn : Int) : (rca38Ticks dev fn).length = 52 := by
  simp only [rca38Ticks, List.length_append]
  rw [length_flatMap_of_length_eq (k := 2) (by decide), length_flatMap_of_length_eq (k := 2) (by decide)]
  simp

/-- Settles O48: device and function are checked first, and the 52 ticks meet the capacity test. -/
theorem encRca38WritesItsFrame : Obligations.EncRca38WritesItsFrame := by
  intro s
  obtain ⟨hwrites, hrefuses, hoverflows⟩ :=
    commitD_frame_spec s uRca38 (rca38Ticks_length _ _) rca38Frame_of_accepts rca38Frame_of_not_accepts
  exact ⟨fun h hroom => congrArg _ (hwrites h hroom), fun h => congrArg _ (hrefuses h),
    fun h hroom => congrArg _ (hoverflows h hroom)⟩

end Sys2Proof.Proofs
end

section
/-! PROOFS. The statements of 30_encoding.md on wire formats: the signal both encoders send, simplified and paired
(41_normalizer.md R120, R124), then Broadlink (R87 to R89) and Pronto (R90, R91). -/

namespace Sys2Proof.Proofs

open Sys2Proof.Machine Sys2Proof.Claims

/-! ### The signal an encoder sends -/

/-- No zeros, and the classes alternate from `c` on: what the loop of SIMPLIFY builds and the loop of PAIRED expects. -/
def Alternates : Int → List Rat → Prop
  | _, [] => True
  | c, x :: xs => x ≠ 0 ∧ cls x = c ∧ Alternates (-c) xs

theorem cls_eq_one_or (x : Rat) : cls x = 1 ∨ cls x = -1 := (ite_eq_or_eq (x < 0) (-1 : Int) 1).symm

theorem cls_eq_one_iff {x : Rat} : cls x = 1 ↔ 0 ≤ x := by
  rcases lt_or_ge x 0 with h | h
  · simp [cls_of_neg h, h]
  · simp [cls_of_nonneg h, h]

/-- Two Durations that are not zero have opposite signs exactly when their classes are opposite (00_scope.md R9). -/
theorem mul_neg_iff_cls {x y : Rat} (hx : x ≠ 0) (hy : y ≠ 0) : x * y < 0 ↔ cls y = -cls x := by
  rcases lt_or_gt_of_ne hx with h | h <;> rcases lt_or_gt_of_ne hy with h' | h'
  · simp [cls_of_neg h, cls_of_neg h', (mul_pos_of_neg_of_neg h h').le]
  · simp [cls_of_neg h, cls_of_nonneg h'.le, mul_neg_of_neg_of_pos h h']
  · simp [cls_of_nonneg h.le, cls_of_neg h', mul_neg_of_pos_of_neg h h']
  · simp [cls_of_nonneg h.le, cls_of_nonneg h'.le, (mul_pos h h').le]

theorem alternates_iff (c : Int) (xs : List Rat) :
    Alternates c xs ↔ (∀ x ∈ xs, x ≠ 0) ∧ (∀ x, xs.head? = some x → cls x = c) ∧ xs.IsChain (fun a b => a * b < 0) := by
  induction xs generalizing c with
  | nil => simp [Alternates]
  | cons x xs ih =>
    rw [Alternates, ih, List.forall_mem_cons, List.isChain_cons]
    simp only [List.head?_cons, Option.some.injEq, forall_eq', Option.mem_def]
    refine ⟨fun ⟨hx, hc, hne, hhead, hchain⟩ => ⟨⟨hx, hne⟩, hc, fun y hy => ?_, hchain⟩,
      fun ⟨⟨hx, hne⟩, hc, hhead, hchain⟩ => ⟨hx, hc, hne, fun y hy => ?_, hchain⟩⟩
    · rw [mul_neg_iff_cls hx (hne y (List.mem_of_mem_head? hy)), hc]
      exact hhead y hy
    · rw [← hc, ← mul_neg_iff_cls hx (hne y (List.mem_of_mem_head? hy))]
      exact hhead y hy

theorem normalized_iff_alternates (xs : List Rat) : Normalized xs ↔ Alternates 1 xs := by
  rw [alternates_iff, Normalized]
  refine and_congr_right fun hne => and_congr_left fun _ => forall₂_congr fun x hx => ?_
  have hx0 := hne x (List.mem_of_mem_head? hx)
  exact ⟨fun h => cls_of_nonneg h.le, fun h => (cls_eq_one_iff.mp h).lt_of_ne' hx0⟩

/-- Adding to a run in progress keeps its class. -/
theorem cls_add_of_signRat_eq {x acc : Rat} (h : signRat x = signRat acc) (hx : x ≠ 0) (hacc : acc ≠ 0) :
    acc + x ≠ 0 ∧ cls (acc + x) = cls acc := by
  rcases lt_or_gt_of_ne hx with hx | hx <;> rcases lt_or_gt_of_ne hacc with hacc | hacc <;>
    simp only [signRat_of_pos, signRat_of_neg, hx, hacc] at h
  · have hsum : acc + x < 0 := by linarith
    exact ⟨hsum.ne, by rw [cls_of_neg hsum, cls_of_neg hacc]⟩
  · cases h
  · cases h
  · have hsum : 0 < acc + x := by linarith
    exact ⟨hsum.ne', by rw [cls_of_nonneg hsum.le, cls_of_nonneg hacc.le]⟩

/-- A Duration whose sign is not that of the run in progress begins the next class. -/
theorem cls_eq_neg_of_signRat_ne {x acc : Rat} (h : signRat x ≠ signRat acc) (hx : x ≠ 0) (hacc : acc ≠ 0) :
    cls x = -cls acc := by
  rcases lt_or_gt_of_ne hx with hx | hx <;> rcases lt_or_gt_of_ne hacc with hacc | hacc <;>
    simp only [signRat_of_pos, signRat_of_neg, hx, hacc, ne_eq, not_true_eq_false] at h
  · rw [cls_of_neg hx, cls_of_nonneg hacc.le]
  · rw [cls_of_nonneg hx.le, cls_of_neg hacc, neg_neg]

/-- The loop of SIMPLIFY begins with the run in progress; with none, with a mark (41_normalizer.md R120). -/
theorem simplifyFrom_alternates (acc : Rat) (xs : List Rat) : Alternates (cls acc) (simplifyFrom acc xs) := by
  fun_induction simplifyFrom acc xs
  case case1 => trivial
  case case2 hacc => exact ⟨hacc, rfl, trivial⟩
  case case3 ih => exact ih
  case case4 hpos ih => rwa [cls_of_nonneg hpos.le] at ih
  case case5 ih => exact ih
  case case6 hx hacc hsign ih => rwa [(cls_add_of_signRat_eq hsign hx hacc).2] at ih
  case case7 hx hacc hsign ih => exact ⟨hacc, rfl, cls_eq_neg_of_signRat_ne hsign hx hacc ▸ ih⟩

/-- What SIMPLIFY writes is a normalized signal (41_normalizer.md R121). -/
theorem simplify_normalized (xs : List Rat) : Normalized (simplify xs) :=
  (normalized_iff_alternates _).mpr (simplifyFrom_alternates 0 xs)

/-- Nothing is inserted into a signal that alternates as expected; what follows it is what the loop adds at the end. -/
theorem pairedFrom_of_alternates {ts : Rat} {c : Int} {xs : List Rat} (h : Alternates c xs) :
    pairedFrom ts c xs = xs ++ pairedFrom ts ((-1) ^ xs.length * c) [] := by
  induction xs generalizing c with
  | nil => simp
  | cons x xs ih =>
    obtain ⟨-, hc, htail⟩ := h
    calc pairedFrom ts c (x :: xs) = x :: pairedFrom ts (-c) xs := if_neg (not_not.mpr hc)
      _ = x :: xs ++ pairedFrom ts ((-1) ^ (x :: xs).length * c) [] := by
        rw [ih htail, List.length_cons, pow_succ, mul_neg_one, neg_mul_comm, List.cons_append]

/-- PAIRED closes a normalized signal and inserts nothing (41_normalizer.md R124 (a)). -/
theorem paired_of_normalized {xs : List Rat} (h : Normalized xs) (ts : Rat) : paired xs ts = closeWith ts xs := by
  rw [paired, pairedFrom_of_alternates ((normalized_iff_alternates xs).mp h), mul_one, closeWith]
  rcases Nat.mod_two_eq_zero_or_one xs.length with heven | hodd
  · rw [(Nat.even_iff.mpr heven).neg_one_pow, if_pos heven]
    simp [pairedFrom]
  · rw [(Nat.odd_iff.mpr hodd).neg_one_pow, if_neg (by omega)]
    simp [pairedFrom]

theorem paired_simplify (xs : List Rat) (ts : Rat) : paired (simplify xs) ts = closeWith ts (simplify xs) :=
  paired_of_normalized (simplify_normalized xs) ts

/-! ### BL.DEC's scaling (30_encoding.md R89) -/

/-- Away from an exact half, `round` under either tie rule is the library's. -/
theorem roundRat_eq_round_of_fract_ne_half {x : Rat} (h : Int.fract x ≠ 1 / 2) (tie : RoundTie) :
    roundRat tie x = round x := by
  have hlow := Int.floor_le x
  have hhigh := Int.lt_floor_add_one x
  rw [round_eq]
  rcases roundRat_cases tie x with ⟨hx, hr⟩ | ⟨hx, hr⟩ | ⟨hx, -⟩
  · rw [hr, eq_comm, Int.floor_eq_iff]
    constructor <;> linarith
  · rw [hr, eq_comm, Int.floor_eq_iff]
    push_cast
    constructor <;> linarith
  · exact absurd hx h

/-- 269 is odd: twice the distance from an integer is an even number over 269, and never 1. -/
theorem abs_blScaled_sub_ne_half (m : Nat) (n : Int) : |(m : Rat) * 8192 / 269 - (n : Rat)| ≠ 1 / 2 := by
  intro h
  have hcleared : (16384 * m - 538 * n : Rat) = 269 ∨ (16384 * m - 538 * n : Rat) = -269 := by
    rcases eq_or_eq_neg_of_abs_eq h with h | h
    · exact .inl (by linarith)
    · exact .inr (by linarith)
  have hintegers : (16384 * m - 538 * n : Int) = 269 ∨ (16384 * m - 538 * n : Int) = -269 := by exact_mod_cast hcleared
  omega

theorem fract_blUnscale_ne_half (m : Nat) : Int.fract ((m : Rat) * blUnscale) ≠ 1 / 2 := by
  intro h
  refine abs_blScaled_sub_ne_half m ⌊(m : Rat) * blUnscale⌋ ?_
  rw [mul_div_assoc]
  change |(m : Rat) * blUnscale - _| = _
  rw [Int.self_sub_floor, h]
  norm_num

/-- Settles O56: no magnitude meets a tie, so neither does a list of them. -/
theorem broadlinkDecodeMeetsNoTie : Obligations.BroadlinkDecodeMeetsNoTie := by
  refine ⟨abs_blScaled_sub_ne_half, fun mark ms => ?_⟩
  induction ms generalizing mark with
  | nil => rfl
  | cons m ms ih =>
    have hne := fract_blUnscale_ne_half m
    rw [blDurations, blDurations, ih, roundRat_eq_round_of_fract_ne_half hne, roundRat_eq_round_of_fract_ne_half hne]

/-! ### BL.ENC (46_broadlink.md R210 to R217; 30_encoding.md R87 to R89) -/

/-- The bits of a value weigh what the value is worth modulo `2^w` (00_scope.md R10). -/
theorem bitsValue_bitsMsb (w v : Nat) : bitsValue (bitsMsb w v) = v % 2 ^ w := by
  induction w with
  | zero => simp [bitsMsb, bitsValue, Nat.mod_one]
  | succ w ih =>
    rw [bitsMsb, bitsValue, ih, bitsMsb_length, Nat.mod_pow_succ, ← Nat.toNat_testBit]
    cases v.testBit w <;> simp [add_comm]

theorem b2u_msbBits (w : Nat) (v : Int) : b2u (msbBits w v) = (v % 2 ^ w).toNat := by
  have hlt := Int.emod_lt_of_pos v (by positivity : (0 : Int) < 2 ^ w)
  rw [b2u_eq_bitsValue, msbBits, ← bitsMsb_eq_map_testBit, bitsValue_bitsMsb, Nat.mod_eq_of_lt]
  zify
  omega

/-- The repeat byte is the repeat count in two's complement (46_broadlink.md R212). -/
theorem ofNat_b2u_msbBits_eight (v : Int) : BitVec.ofNat 8 (b2u (msbBits 8 v)) = BitVec.ofInt 8 v := by
  apply BitVec.eq_of_toNat_eq
  rw [b2u_msbBits, BitVec.toNat_ofNat, BitVec.toNat_ofInt]
  omega

theorem roundRat_nonneg (tie : RoundTie) {x : Rat} (h : 0 ≤ x) : 0 ≤ roundRat tie x := by
  have hfloor : 0 ≤ ⌊x⌋ := Int.floor_nonneg.mpr h
  rcases roundRat_cases tie x with ⟨-, hr⟩ | ⟨-, hr⟩ | ⟨-, hr⟩
  · omega
  · omega
  · have := roundHalf_eq_or tie ⌊x⌋
    omega

theorem blMagnitude_eq (tie : RoundTie) (x : Rat) : blMagnitude tie x = roundRat tie (|x| * 269 / 8192) := by
  rw [blMagnitude, absRat_eq_abs, blScale, mul_div_assoc]

/-- A magnitude is a natural number. -/
theorem natCast_toNat_blMagnitude (tie : RoundTie) (x : Rat) :
    ((blMagnitude tie x).toNat : Int) = blMagnitude tie x := by
  rw [blMagnitude_eq, Int.toNat_of_nonneg (roundRat_nonneg tie (by positivity))]

/-- A signal is sent closed by the trailing silence: simplified, it needs no other partner (46_broadlink.md R213). -/
theorem blMagnitudesOf_eq (tie : RoundTie) (d : List Rat) :
    blMagnitudesOf tie d = (paired (simplify d) blTrail).map fun x => (blMagnitude tie x).toNat := by
  simp only [blMagnitudesOf, paired_simplify, blMagnitude_eq, blTrail]

/-- An entry holds what fits 16 bits (46_broadlink.md R214, R215). -/
theorem blEntry_eq_ok_iff (m : Nat) (bytes : List Byte) :
    blEntry m = .ok bytes ↔ m ≤ 65535 ∧ blEntryBytes m = bytes := by
  rcases blEntry_cases m with ⟨hone, hr⟩ | ⟨hescape, hfits, hr⟩ | ⟨hbig, hr⟩ <;> rw [hr]
  · rw [blEntryBytes, if_pos (by omega), BitVec.ofInt_natCast, Except.ok.injEq, iff_and_self]
    omega
  · rw [blEntryBytes, if_neg (by omega)]
    exact ⟨fun h => ⟨by omega, Except.ok.inj h⟩, fun h => congrArg _ h.2⟩
  · exact ⟨fun h => (by cases h), fun h => (by omega)⟩

theorem blPayload_cons_eq_ok_iff (tie : RoundTie) (x : Rat) (xs : List Rat) (payload : List Byte) :
    blPayload tie (x :: xs) = .ok payload ↔
      ∃ entry rest, blEntry (blMagnitude tie x) = .ok entry ∧ blPayload tie xs = .ok rest ∧ entry ++ rest = payload := by
  rw [blPayload]
  cases blEntry (blMagnitude tie x) <;> cases blPayload tie xs <;> simp

/-- A payload is the entries in order, when every magnitude fits 16 bits (46_broadlink.md R210, R215). -/
theorem blPayload_eq_ok_iff (tie : RoundTie) (xs : List Rat) (payload : List Byte) :
    blPayload tie xs = .ok payload ↔
      (∀ m ∈ xs.map fun x => (blMagnitude tie x).toNat, m ≤ 65535)
        ∧ (xs.map fun x => (blMagnitude tie x).toNat).flatMap blEntryBytes = payload := by
  induction xs generalizing payload with
  | nil => simp [blPayload]
  | cons x xs ih =>
    rw [blPayload_cons_eq_ok_iff, ← natCast_toNat_blMagnitude, List.map_cons, List.forall_mem_cons, List.flatMap_cons]
    simp only [blEntry_eq_ok_iff, ih]
    constructor
    · rintro ⟨_, _, ⟨hx, rfl⟩, ⟨hxs, rfl⟩, rfl⟩
      exact ⟨⟨hx, hxs⟩, rfl⟩
    · rintro ⟨⟨hx, hxs⟩, rfl⟩
      exact ⟨_, _, ⟨hx, rfl⟩, ⟨hxs, rfl⟩, rfl⟩

theorem blEncode_of_accepts {tie : RoundTie} {rep : Int} {d : List Rat} (h : BlAccepts tie rep d) :
    blEncode tie rep d = .ok (blStreamOf tie rep d) := by
  obtain ⟨hrep, hmags, hlen⟩ := h
  have hbits : u2b rep 8 = .ok (msbBits 8 rep) := u2b_of_fieldRange (by decide) hrep
  have hpayload : blPayload tie (paired (simplify d) blTrail) = .ok ((blMagnitudesOf tie d).flatMap blEntryBytes) := by
    rw [blPayload_eq_ok_iff, ← blMagnitudesOf_eq]
    exact ⟨hmags, rfl⟩
  simp only [blEncode, hbits, hpayload, ofNat_b2u_msbBits_eight]
  rw [if_neg (by unfold max16; omega)]
  rfl

theorem blAccepts_of_blEncode_eq_ok {tie : RoundTie} {rep : Int} {d : List Rat} {bytes : List Byte}
    (h : blEncode tie rep d = .ok bytes) : BlAccepts tie rep d := by
  unfold blEncode at h
  split at h
  case h_1 => cases h
  case h_2 bits hbits =>
    split at h
    case h_1 => cases h
    case h_2 payload hpayload =>
      rw [blPayload_eq_ok_iff, ← blMagnitudesOf_eq] at hpayload
      obtain ⟨hmags, rfl⟩ := hpayload
      refine ⟨?_, hmags, ?_⟩
      · by_contra hrep
        rw [u2b_of_out_of_range (.inr (.inr hrep))] at hbits
        cases hbits
      · by_contra hlen
        rw [if_pos (by unfold max16; omega)] at h
        cases h

theorem blEncode_of_not_accepts {tie : RoundTie} {rep : Int} {d : List Rat} (h : ¬ BlAccepts tie rep d) :
    blEncode tie rep d = .error .domain := by
  cases hstream : blEncode tie rep d with
  | error e => rw [blEncode_error hstream]
  | ok bytes => exact absurd (blAccepts_of_blEncode_eq_ok hstream) h

theorem exec_blEnc (s : State) :
    exec .blEnc s = .next (settle s
      (bounded s.cfg.bcap List.length (blEncode s.cfg.roundTie s.pBlrep.toInt s.bufD)) s.putB) := rfl

/-- Settles O51: repeat count, magnitudes and length are checked, and the stream meets the capacity test. -/
theorem blEncWritesTheStream : Obligations.BlEncWritesTheStream := by
  intro s
  rw [exec_blEnc]
  refine ⟨fun h => ⟨fun hroom => ?_, fun hroom => ?_⟩, fun h => ?_⟩
  · rw [blEncode_of_accepts h, settle_bounded_of_room hroom]
    rfl
  · rw [blEncode_of_accepts h, settle_bounded_of_no_room hroom]
  · rw [blEncode_of_not_accepts h, settle_bounded_error, raise_domain]

/-! ### The Pronto encoders (47_pronto.md R240 to R244; 30_encoding.md R90, R91) -/

/-- Word 1 of a frequency, the division by the clock turned into one by integers (47_pronto.md R242). -/
theorem prontoBaseOf_eq (freq : Rat) : prontoBaseOf freq = ⌊500000 / (freq * 120623)⌋ := by
  rw [prontoBaseOf, truncRat, floor_eq, prontoClock, mul_div_assoc', one_div_div]

theorem prontoBaseOf_default : prontoBaseOf prontoDefaultFreq = 103 := by
  rw [prontoBaseOf_eq, prontoDefaultFreq, Int.floor_eq_iff]
  norm_num

theorem prontoBaseOk_natCast {base : Nat} (hpos : 1 ≤ base) (hmax : base ≤ 65535) : prontoBaseOk base = true := by
  rw [prontoBaseOk, Bool.and_eq_true, decide_eq_true_eq, decide_eq_true_eq, max16]
  omega

/-- Whatever the clock source, the encoder computes the code under its clock (47_pronto.md R240). -/
theorem exec_of_prontoClockOf {i : Instr} {s : State} {base : Nat} {freq : Rat} (h : ProntoClockOf i s base freq) :
    exec i s = .next (commitW s (prontoBody { base := base, freq := freq } s.bufD s.bufE)) := by
  rcases h with ⟨rfl, rfl, rfl⟩ | ⟨rfl, hreg, hpos, hmax, rfl⟩ | ⟨rfl, rfl, hfreq, hpos, hmax, hbase⟩
  · rw [exec, execProntoEncDef, prontoClockDef, prontoBaseOf_default]
    rfl
  · rw [exec, execProntoEncBase, prontoClockBase, hreg, if_pos (prontoBaseOk_natCast hpos hmax), prontoClock,
      mul_div_assoc', one_div_div]
    rfl
  · rw [exec, execProntoEncFreq, prontoClockFreq, if_neg (not_le.mpr hfreq), prontoBaseOf_eq, ← hbase,
      if_pos (prontoBaseOk_natCast hpos hmax)]
    rfl

theorem freq_pos_of_prontoClockOf {i : Instr} {s : State} {base : Nat} {freq : Rat} (h : ProntoClockOf i s base freq) :
    0 < freq := by
  rcases h with ⟨-, -, rfl⟩ | ⟨-, -, hpos, -, rfl⟩ | ⟨-, -, hfreq, -⟩
  · norm_num
  · positivity
  · exact hfreq

theorem prontoCount_eq (freq x : Rat) : prontoCount freq x = ⌊|x| * freq⌋ := by
  rw [prontoCount, truncRat, floor_eq, absRat_eq_abs]

/-- Counts that fit their words are written in order (47_pronto.md R240, R244). -/
theorem prontoCounts_of_le {freq : Rat} (hfreq : 0 < freq) {xs : List Rat}
    (h : ∀ c ∈ xs.map fun x => ⌊|x| * freq⌋.toNat, c ≤ 65535) :
    prontoCounts freq xs = .ok ((xs.map fun x => ⌊|x| * freq⌋.toNat).map (BitVec.ofNat 16)) := by
  induction xs with
  | nil => rfl
  | cons x xs ih =>
    rw [List.map_cons, List.forall_mem_cons] at h
    obtain ⟨hx, hxs⟩ := h
    have hcount : prontoCount freq x = (⌊|x| * freq⌋.toNat : Int) := by
      rw [prontoCount_eq, Int.toNat_of_nonneg (Int.floor_nonneg.mpr (by positivity))]
    have hfits : ¬ max16 < (⌊|x| * freq⌋.toNat : Int) := by
      rw [max16]
      omega
    simp only [prontoCounts, hcount, if_neg hfits, ih hxs, BitVec.ofInt_natCast, List.map_cons]

theorem prontoBody_of_fits {base : Nat} {freq : Rat} (hfreq : 0 < freq) {d e : List Rat} (h : ProntoFits freq d e) :
    prontoBody { base := base, freq := freq } d e = .ok (prontoWords base freq d e) := by
  obtain ⟨hn1, hn2, hcounts⟩ := h
  have hpairs (xs) : paired (simplify xs) 0 = prontoPairs xs := paired_simplify xs 0
  have hheader : ¬ (max16 < (((prontoPairs d).length / 2 : Nat) : Int)
      ∨ max16 < (((prontoPairs e).length / 2 : Nat) : Int)) := by
    unfold max16
    omega
  simp only [prontoBody, hpairs, if_neg hheader, prontoCounts_of_le hfreq hcounts, BitVec.ofInt_natCast]
  rfl

/-- Settles O57: the three clock sources differ in the clock alone, and under each the code is the same. -/
theorem prontoEncodersWriteTheCode : Obligations.ProntoEncodersWriteTheCode := by
  intro s i base freq hclock hfits
  rw [exec_of_prontoClockOf hclock, prontoBody_of_fits (freq_pos_of_prontoClockOf hclock) hfits]
  refine ⟨fun hroom => ?_, fun hroom => ?_⟩
  · rw [commitW, settle_bounded_of_room hroom]
    rfl
  · rw [commitW, settle_bounded_of_no_room hroom]

/-! ### PRONTO.DEC (47_pronto.md R250 to R255) -/

theorem placeSign_add_two (k : Nat) : placeSign (k + 2) = placeSign k := by
  rw [placeSign, placeSign, Nat.add_mod_right]

/-- The Durations of counts of `per` microseconds each, signs alternating from a mark (47_pronto.md R250). -/
def prontoSignal (tie : RoundTie) (per : Rat) (counts : List Half) : List Rat :=
  counts.mapIdx fun k c => placeSign k * roundTenth tie ((c.toNat : Rat) * per)

@[simp] theorem prontoSignal_length (tie : RoundTie) (per : Rat) (counts : List Half) :
    (prontoSignal tie per counts).length = counts.length := by simp [prontoSignal]

theorem prontoSignal_cons_cons (tie : RoundTie) (per : Rat) (on off : Half) (rest : List Half) :
    prontoSignal tie per (on :: off :: rest)
      = roundTenth tie ((on.toNat : Rat) * per) :: -roundTenth tie ((off.toNat : Rat) * per)
        :: prontoSignal tie per rest := by
  simp only [prontoSignal, List.mapIdx_cons, Nat.add_assoc, Nat.reduceAdd, placeSign_add_two]
  simp [placeSign]

/-- The pairs a code announces are read as Durations of alternating signs, whatever follows them (R250, R254). -/
theorem prontoDurations_append (tie : RoundTie) (per : Rat) {k : Nat} {counts : List Half}
    (h : counts.length = 2 * k) (extra : List Half) :
    prontoDurations tie per k (counts ++ extra) = prontoSignal tie per counts := by
  induction k generalizing counts with
  | zero => rw [List.length_eq_zero_iff.mp h]; rfl
  | succ k ih =>
    match counts, h with
    | on :: off :: rest, h =>
      have hrest : rest.length = 2 * k := by simp only [List.length_cons] at h; omega
      simp only [List.cons_append, prontoDurations, ih hrest, prontoSignal_cons_cons]

theorem prontoPeriod_mul (c : Rat) (base : Half) :
    c * prontoPeriod base = c * (base.toNat : Rat) * 120623 / 500000 := by
  rw [prontoPeriod, prontoClock]
  ring

/-- A code with enough words is taken apart into header and counts (47_pronto.md R250, R254). -/
theorem prontoDecode_of_enough (tie : RoundTie) {base n1 n2 : Half} {counts extra : List Half} (hbase : base ≠ 0#16)
    (hlen : counts.length = 2 * (n1.toNat + n2.toNat)) :
    prontoDecode tie ([0#16, base, n1, n2] ++ counts ++ extra) = .ok
      { base := base, n1 := n1, n2 := n2, durations := prontoSignal tie (prontoPeriod base) counts } := by
  have henough : ¬ (counts ++ extra).length < 2 * (n1.toNat + n2.toNat) := by
    rw [List.length_append]
    omega
  simp only [prontoDecode, List.cons_append, List.nil_append, List.head?_cons, ne_eq, not_true_eq_false, if_false,
    prontoDecodeBody, hbase, henough, prontoDurations_append tie _ hlen]

/-- The writes of PRONTO.DEC in the words of the claims (47_pronto.md R250, R255). -/
theorem putPronto_eq_prontoDecoded (s : State) (base n1 n2 : Half) (counts : List Half) :
    s.putPronto
        { base := base, n1 := n1, n2 := n2, durations := prontoSignal s.cfg.roundTie (prontoPeriod base) counts }
      = prontoDecoded s base n1 n2 counts := by
  have hfreq : 1 / prontoPeriod base = 500000 / ((base.toNat : Rat) * 120623) := by
    rw [prontoPeriod, prontoClock, mul_div_assoc', one_div_div]
  simp only [State.putPronto, prontoDecoded, prontoSignal, hfreq, prontoPeriod_mul]

theorem exec_prontoDec (s : State) :
    exec .prontoDec s = .next (settle s
      (bounded s.cfg.dcap (fun c => c.durations.length) (prontoDecode s.cfg.roundTie s.bufW)) s.putPronto) := rfl

/-- Settles O59: the code is taken apart, and the Durations meet the capacity test. -/
theorem prontoDecReadsTheCode : Obligations.ProntoDecReadsTheCode := by
  intro s base n1 n2 counts extra hW hbase hlen
  rw [exec_prontoDec, hW, prontoDecode_of_enough _ hbase hlen]
  refine ⟨fun hroom => ?_, fun hroom => ?_⟩
  · rw [settle_bounded_of_room (by simpa using hroom), putPronto_eq_prontoDecoded]
  · rw [settle_bounded_of_no_room (by simpa using hroom)]

end Sys2Proof.Proofs
end

section
/-! PROOFS. The statements of 40_primitives.md: the inverse laws of U2B and B2U (R104), the quantizer (R105 to R109),
UNBITIFY (R110), and in what sense the two are inverse (R111). -/

namespace Sys2Proof.Proofs

open Sys2Proof.Machine Sys2Proof.Claims

/-! ### U2B and B2U are inverse (R104) -/

/-- Strings of one length that weigh the same are the same: the first symbol outweighs all that follow. -/
theorem eq_of_bitsValue_eq {xs ys : List Bool} (hlen : xs.length = ys.length) (h : bitsValue xs = bitsValue ys) :
    xs = ys := by
  induction xs generalizing ys with
  | nil => exact (List.length_eq_zero_iff.mp hlen.symm).symm
  | cons x xs ih =>
    cases ys with
    | nil => cases hlen
    | cons y ys =>
      have htails : xs.length = ys.length := Nat.succ.inj hlen
      have hx := bitsValue_lt xs
      have hy := bitsValue_lt ys
      rw [bitsValue, bitsValue, htails] at h
      rw [htails] at hx
      have hhead : x = y := by
        cases x <;> cases y
        case true.false => simp only [if_true, Bool.false_eq_true, if_false] at h; omega
        case false.true => simp only [if_true, Bool.false_eq_true, if_false] at h; omega
        all_goals rfl
      subst hhead
      rw [ih htails (Nat.add_left_cancel h)]

/-- The value U2B's bits weigh, as an integer. -/
theorem natCast_b2u_msbBits (w : Nat) (v : Int) : (b2u (msbBits w v) : Int) = v % 2 ^ w := by
  rw [b2u_msbBits, Int.toNat_of_nonneg (Int.emod_nonneg v (by positivity))]

theorem msbBits_b2u (bits : List Bool) : msbBits bits.length (b2u bits : Int) = bits := by
  refine eq_of_bitsValue_eq (msbBits_length _ _) ?_
  have hlt : (b2u bits : Int) < 2 ^ bits.length := by exact_mod_cast b2u_lt bits
  rw [← b2u_eq_bitsValue, ← b2u_eq_bitsValue, b2u_msbBits, Int.emod_eq_of_lt (by omega) hlt, Int.toNat_natCast]

/-- B2U gives back a value of the field's range, biased when negative. -/
theorem exists_u2b_b2u {v : Int} {w : Nat} (hw : w ≤ 31) (h : fieldRange v w) :
    ∃ bits, u2b v w = .ok bits ∧ (b2u bits : Int) = if v < 0 then v + 2 ^ w else v :=
  ⟨msbBits w v, u2b_of_fieldRange hw h, (natCast_b2u_msbBits w v).trans (biased_eq_emod h).symm⟩

/-- Settles O24: the bits weigh the biased value, and a string is determined by its length and weight. -/
theorem u2bAndB2uAreInverse : Obligations.U2bAndB2uAreInverse := by
  refine ⟨fun w hw v hlow hhigh => ?_, fun w hw v hlow hhigh => ?_, fun bits hlen => ?_⟩
  · have hpos : (0 : Int) < 2 ^ w := by positivity
    simpa [not_lt.mpr hlow] using exists_u2b_b2u hw (v := v) ⟨by omega, hhigh⟩
  · have hpos : (0 : Int) < 2 ^ w := by positivity
    have hneg : v < 0 := by omega
    simpa [hneg] using exists_u2b_b2u hw (v := v) ⟨hlow, by omega⟩
  · have hlt : (b2u bits : Int) < 2 ^ bits.length := by exact_mod_cast b2u_lt bits
    rw [u2b_of_fieldRange hlen ⟨by omega, by omega⟩, msbBits_b2u]

/-! ### Rounding, away from a tie (00_scope.md R8) -/

/-- An integer nearer than half a unit is the nearest one, under either tie rule. -/
theorem roundRat_eq_of_abs_sub_lt_half (tie : RoundTie) {x : Rat} {n : Int} (h : |x - (n : Rat)| < 1 / 2) :
    roundRat tie x = n := by
  have hnear := (roundRat_nearest tie x n).trans_lt h
  obtain ⟨hlow, hhigh⟩ := abs_lt.mp h
  obtain ⟨hlow', hhigh'⟩ := abs_lt.mp hnear
  have hup : (roundRat tie x : Rat) < (n + 1 : Int) := by push_cast; linarith
  have hdown : (n : Rat) < (roundRat tie x + 1 : Int) := by push_cast; linarith
  have := Int.cast_lt.mp hup
  have := Int.cast_lt.mp hdown
  omega

/-! ### The quantizer on one Duration (R105) -/

/-- The number of ticks of a Duration (R105). -/
def tickCount (tie : RoundTie) (u d : Rat) : Nat := (roundRat tie (|d| / u)).toNat

/-- The number of ticks is the rounded quotient, which is not negative. -/
theorem natCast_tickCount (tie : RoundTie) {u : Rat} (hu : 0 < u) (d : Rat) :
    (tickCount tie u d : Rat) = (roundRat tie (|d| / u) : Rat) := by
  have hnonneg : 0 ≤ roundRat tie (|d| / u) := roundRat_nonneg tie (by positivity)
  rw [tickCount, ← Int.cast_natCast, Int.toNat_of_nonneg hnonneg]

/-- The distance from a multiple, in units. -/
theorem offBy_div (d : Rat) (n : Nat) {u : Rat} (hu : 0 < u) : offBy d n u / u = |(|d| / u - (n : Rat))| := by
  rw [offBy, ← abs_of_pos hu, ← abs_div, abs_of_pos hu, sub_div, mul_div_cancel_right₀ _ hu.ne']

/-- The quantizer's branches in the words of the claims: the distance from the multiple `round` picks is tested. -/
theorem bitifyOne_eq (tie : RoundTie) {u : Rat} (hu : 0 < u) (d : Rat) :
    bitifyOne tie u d
      = if u / 10 < offBy d (tickCount tie u d) u then .error (.timing d u (offBy d (tickCount tie u d) u / u))
        else .ok (List.replicate (tickCount tie u d) (signRat d)) := by
  have htest : tolerance < offBy d (tickCount tie u d) u / u ↔ u / 10 < offBy d (tickCount tie u d) u := by
    rw [tolerance, lt_div_iff₀ hu, one_div_mul_eq_div]
  rw [← if_congr htest rfl rfl, bitifyOne, absRat_eq_abs, absRat_eq_abs, ← natCast_tickCount tie hu]
  rfl

/-- The multiple `round` picks is a nearest one. -/
theorem offBy_tickCount_le (tie : RoundTie) {u : Rat} (hu : 0 < u) (d : Rat) (n : Nat) :
    offBy d (tickCount tie u d) u ≤ offBy d n u := by
  rw [← div_le_div_iff_of_pos_right hu, offBy_div d _ hu, offBy_div d n hu, natCast_tickCount tie hu]
  exact_mod_cast roundRat_nearest tie (|d| / u) n

/-- Within 1/10 unit of a multiple, the ticks are counted by that multiple. -/
theorem tickCount_of_offBy_le (tie : RoundTie) {u d : Rat} {n : Nat} (hu : 0 < u) (h : offBy d n u ≤ u / 10) :
    tickCount tie u d = n := by
  have hunits : |(|d| / u - ((n : Int) : Rat))| ≤ 1 / 10 := by
    rw [Int.cast_natCast, ← offBy_div d n hu, div_le_iff₀ hu, one_div_mul_eq_div]
    exact h
  rw [tickCount, roundRat_eq_of_abs_sub_lt_half tie (hunits.trans_lt (by norm_num)), Int.toNat_natCast]

theorem bitifyOne_of_offBy_le (tie : RoundTie) {u d : Rat} {n : Nat} (hu : 0 < u) (h : offBy d n u ≤ u / 10) :
    bitifyOne tie u d = .ok (List.replicate n (signRat d)) := by
  rw [bitifyOne_eq tie hu, tickCount_of_offBy_le tie hu h, if_neg (not_lt.mpr h)]

/-- Off every multiple by more than 1/10 unit, the distance from a nearest one is the error (R108). -/
theorem bitifyOne_of_offending (tie : RoundTie) {u d : Rat} {n : Nat} (hu : 0 < u)
    (hoff : ∀ m : Nat, u / 10 < offBy d m u) (hnear : ∀ m : Nat, offBy d n u ≤ offBy d m u) :
    bitifyOne tie u d = .error (.timing d u (offBy d n u / u)) := by
  rw [bitifyOne_eq tie hu, if_pos (hoff _), (offBy_tickCount_le tie hu d n).antisymm (hnear _)]

/-- Neither the error nor, where the Duration passes, the count depends on the tie rule (R109). -/
theorem bitifyOne_tie (tie tie' : RoundTie) {u : Rat} (hu : 0 < u) (d : Rat) :
    bitifyOne tie u d = bitifyOne tie' u d := by
  have herror : offBy d (tickCount tie u d) u = offBy d (tickCount tie' u d) u :=
    (offBy_tickCount_le tie hu d _).antisymm (offBy_tickCount_le tie' hu d _)
  rw [bitifyOne_eq tie' hu]
  split
  case isTrue hoff => rw [bitifyOne_eq tie hu, herror, if_pos hoff]
  case isFalse hwithin => exact bitifyOne_of_offBy_le tie hu (not_lt.mp hwithin)

/-- An exact half of a unit off, the error is 1/2 (R109). -/
theorem bitifyOne_of_half (tie : RoundTie) {u d : Rat} {n : Nat} (hu : 0 < u) (h : |d| / u = (n : Rat) + 1 / 2) :
    bitifyOne tie u d = .error (.timing d u (1 / 2)) := by
  have hfract : Int.fract (|d| / u) = 1 / 2 :=
    Int.fract_eq_iff.mpr ⟨by norm_num, by norm_num, n, by rw [h, Int.cast_natCast, add_sub_cancel_right]⟩
  have herror : offBy d (tickCount tie u d) u / u = 1 / 2 := by
    rw [offBy_div d _ hu, natCast_tickCount tie hu, abs_sub_roundRat, hfract]
    norm_num
  have hoff : u / 10 < offBy d (tickCount tie u d) u := by
    rw [div_eq_iff hu.ne'] at herror
    linarith
  rw [bitifyOne_eq tie hu, if_pos hoff, herror]

/-! ### The quantizer on a signal -/

theorem bitify_of_unit_nonpos (tie : RoundTie) (ds : List Rat) {u : Rat} (h : u ≤ 0) :
    bitify tie ds u = .error .domain := if_pos h

theorem bitify_of_unit_pos (tie : RoundTie) (ds : List Rat) {u : Rat} (h : 0 < u) :
    bitify tie ds u = bitifyAll tie u ds := if_neg (not_le.mpr h)

theorem bitifyAll_cons_of_error {tie : RoundTie} {u d : Rat} {e : Err} (h : bitifyOne tie u d = .error e)
    (ds : List Rat) : bitifyAll tie u (d :: ds) = .error e := by
  simp only [bitifyAll, h]

theorem bitifyAll_cons_of_ok {tie : RoundTie} {u d : Rat} {run : List Int} (h : bitifyOne tie u d = .ok run)
    (ds : List Rat) : bitifyAll tie u (d :: ds) = (bitifyAll tie u ds).map fun rest => run ++ rest := by
  cases hds : bitifyAll tie u ds <;> simp [bitifyAll, h, hds, Except.map]

/-- The runs of ticks of a signal whose Durations have the given counts. -/
def tickRuns (ds : List Rat) (ns : List Nat) : List Int :=
  (List.zipWith (fun d n => List.replicate n (signRat d)) ds ns).flatten

@[simp] theorem tickRuns_nil : tickRuns [] [] = [] := rfl

@[simp] theorem tickRuns_cons (d : Rat) (ds : List Rat) (n : Nat) (ns : List Nat) :
    tickRuns (d :: ds) (n :: ns) = List.replicate n (signRat d) ++ tickRuns ds ns := rfl

/-- A part within tolerance puts its runs in front, and leaves the outcome to the rest. -/
theorem bitifyAll_append_of_quantizes (tie : RoundTie) {u : Rat} (hu : 0 < u) {ds : List Rat} {ns : List Nat}
    (h : Quantizes u ds ns) (rest : List Rat) :
    bitifyAll tie u (ds ++ rest) = (bitifyAll tie u rest).map fun ticks => tickRuns ds ns ++ ticks := by
  induction h with
  | nil => rw [List.nil_append]; cases bitifyAll tie u rest <;> rfl
  | @cons d n ds ns hd _ ih =>
    rw [List.cons_append, bitifyAll_cons_of_ok (bitifyOne_of_offBy_le tie hu hd), ih]
    cases bitifyAll tie u rest <;> simp [Except.map]

/-- Within tolerance throughout, a signal is quantized to its runs (R105). -/
theorem bitify_of_quantizes (tie : RoundTie) {u : Rat} (hu : 0 < u) {ds : List Rat} {ns : List Nat}
    (h : Quantizes u ds ns) : bitify tie ds u = .ok (tickRuns ds ns) := by
  simpa [bitify_of_unit_pos tie ds hu, Except.map] using bitifyAll_append_of_quantizes tie hu h []

/-- The first Duration out of tolerance is the one raised (R105, R108). -/
theorem bitify_of_firstOffending (tie : RoundTie) {u : Rat} (hu : 0 < u) {ds : List Rat} {d e : Rat}
    (h : FirstOffending u ds d e) : bitify tie ds u = .error (.timing d u e) := by
  obtain ⟨before, after, ns, n, rfl, hbefore, hoff, hnear, rfl⟩ := h
  rw [bitify_of_unit_pos tie _ hu, bitifyAll_append_of_quantizes tie hu hbefore,
    bitifyAll_cons_of_error (bitifyOne_of_offending tie hu hoff hnear)]
  rfl

/-- Settles O27: at a half the error is 1/2, and every Duration alone is answered alike under both tie rules. -/
theorem quantizerDoesNotDependOnTheTieRule : Obligations.QuantizerDoesNotDependOnTheTieRule := by
  refine ⟨fun tie u d n ds hu h => ?_, fun ds u => ?_⟩
  · rw [bitify_of_unit_pos tie _ hu, bitifyAll_cons_of_error (bitifyOne_of_half tie hu h)]
  · rcases le_or_gt u 0 with hu | hu
    · rw [bitify_of_unit_nonpos _ ds hu, bitify_of_unit_nonpos _ ds hu]
    · rw [bitify_of_unit_pos _ ds hu, bitify_of_unit_pos _ ds hu]
      induction ds with
      | nil => rfl
      | cons d ds ih => rw [bitifyAll, bitifyAll, ih, bitifyOne_tie .halfEven .halfAway hu d]

/-! ### BITIFY and UNBITIFY (R105, R110) -/

theorem exec_bitify (s : State) :
    exec .bitify s = .next (commitD s ((bitify s.cfg.roundTie s.bufD s.qUnit).map ticksToD)) := rfl

theorem exec_unbitify (s : State) : exec .unbitify s = .next (s.putD (unbitify s.bufD s.qUnit)) := rfl

theorem commitD_of_room {s : State} {xs : List Rat} (h : room s.cfg.dcap xs.length = true) :
    commitD s (.ok xs) = s.putD xs := settle_bounded_of_room h

theorem commitD_of_no_room {s : State} {xs : List Rat} (h : room s.cfg.dcap xs.length = false) :
    commitD s (.ok xs) = overflow s := settle_bounded_of_no_room h

/-- The sign of a Duration as a tick of the model is the tick of the claims. -/
theorem cast_signRat (d : Rat) : (signRat d : Rat) = tickOf d := by
  rcases lt_trichotomy d 0 with h | rfl | h
  · simp [signRat_of_neg h, tickOf, h, h.le]
  · simp [tickOf]
  · simp [signRat_of_pos h, tickOf, h]

/-- The model's ticks in `D`, without the coercion of the list. -/
theorem ticksToD_eq_map (ts : List Int) : ticksToD ts = ts.map Int.cast := by
  simp only [ticksToD, bind_pure_comp, List.map_eq_map, List.map_id']

theorem ticksToD_tickRuns (ds : List Rat) (ns : List Nat) :
    ticksToD (tickRuns ds ns) = (List.zipWith (fun d n => List.replicate n (tickOf d)) ds ns).flatten := by
  simp only [ticksToD_eq_map, tickRuns, List.map_flatten, List.map_zipWith, List.map_replicate, cast_signRat]

theorem tickRuns_length {u : Rat} {ds : List Rat} {ns : List Nat} (h : Quantizes u ds ns) :
    (tickRuns ds ns).length = ns.sum := by
  induction h with
  | nil => rfl
  | cons _ _ ih => simp [ih]

theorem exec_bitify_of_firstOffending {s : State} {d e : Rat} (hu : 0 < s.qUnit)
    (h : FirstOffending s.qUnit s.bufD d e) : exec .bitify s = .next (faulted s 2 d s.qUnit e) := by
  rw [exec_bitify, bitify_of_firstOffending _ hu h, ← raise_timing]
  rfl

/-- Settles O25, from what the quantizer answers and the room in `D`. -/
theorem bitifyQuantizesTheSignal : Obligations.BitifyQuantizesTheSignal := by
  refine fun s => ⟨fun hu => ?_, fun ns hu h => ?_, fun d e hu h => exec_bitify_of_firstOffending hu h⟩
  · rw [exec_bitify, bitify_of_unit_nonpos _ _ hu, ← raise_domain]
    rfl
  · have hsize : (ticksToD (tickRuns s.bufD ns)).length = ns.sum := (ticksToD_length _).trans (tickRuns_length h)
    rw [exec_bitify, bitify_of_quantizes _ hu h, Except.map, ← ticksToD_tickRuns]
    exact ⟨fun hroom => congrArg _ (commitD_of_room (by rwa [hsize])),
      fun hroom => congrArg _ (commitD_of_no_room (by rwa [hsize]))⟩

/-- A decoder raises the quantizer's error before it reads any bit (43_rc5.md R165; 90_conflicts.md C11). -/
theorem exec_decRc5_of_bitify_error {s : State} {e : Err}
    (h : bitify s.cfg.roundTie (simplify s.bufD) 889 = .error e) : exec .decRc5 s = .next (s.raise e) := by
  have hdecode : rc5Decode s.cfg.roundTie s.bufD = .error e := by rw [rc5Decode, uRc5, h]
  calc exec .decRc5 s = .next (settle s (rc5Decode s.cfg.roundTie s.bufD) s.putRc5) := rfl
    _ = .next (s.raise e) := by rw [hdecode, settle_error]

/-- The same for RC6 (44_rc6.md R185; 90_conflicts.md C11). -/
theorem exec_decRc6_of_bitify_error {s : State} {e : Err}
    (h : bitify s.cfg.roundTie (simplify s.bufD) 444 = .error e) : exec .decRc6 s = .next (s.raise e) := by
  have hdecode : rc6Decode s.cfg.roundTie s.bufD = .error e := by rw [rc6Decode, uRc6, h]
  calc exec .decRc6 s = .next (settle s (rc6Decode s.cfg.roundTie s.bufD) s.putRc6) := rfl
    _ = .next (s.raise e) := by rw [hdecode, settle_error]

/-- Settles O26: the three commands raise the error of the quantizer as it is. -/
theorem timingErrorRecordsDurationUnitAndError : Obligations.TimingErrorRecordsDurationUnitAndError := by
  refine fun s d e => ⟨exec_bitify_of_firstOffending, fun h => ?_, fun h => ?_⟩
  · rw [exec_decRc5_of_bitify_error (bitify_of_firstOffending _ (by norm_num) h), raise_timing]
  · rw [exec_decRc6_of_bitify_error (bitify_of_firstOffending _ (by norm_num) h), raise_timing]

/-- Settles O28: UNBITIFY makes no test. -/
theorem unbitifyScalesEveryElement : Obligations.UnbitifyScalesEveryElement := fun s => exec_unbitify s

/-! ### What SIMPLIFY does with neighbours of one sign (41_normalizer.md R120) -/

@[simp] theorem simplifyFrom_zero_cons (acc : Rat) (xs : List Rat) : simplifyFrom acc (0 :: xs) = simplifyFrom acc xs :=
  if_pos rfl

theorem simplifyFrom_none_of_pos {x : Rat} (h : 0 < x) (xs : List Rat) :
    simplifyFrom 0 (x :: xs) = simplifyFrom x xs := by
  rw [simplifyFrom, if_neg h.ne', if_pos rfl, if_pos h]

theorem simplifyFrom_none_of_neg {x : Rat} (h : x < 0) (xs : List Rat) :
    simplifyFrom 0 (x :: xs) = simplifyFrom 0 xs := by
  rw [simplifyFrom, if_neg h.ne, if_pos rfl, if_neg h.not_gt]

theorem simplifyFrom_of_signRat_eq {acc x : Rat} (hacc : acc ≠ 0) (hx : x ≠ 0) (h : signRat x = signRat acc)
    (xs : List Rat) : simplifyFrom acc (x :: xs) = simplifyFrom (acc + x) xs := by
  rw [simplifyFrom, if_neg hx, if_neg hacc, if_pos h]

theorem simplifyFrom_of_signRat_ne {acc x : Rat} (hacc : acc ≠ 0) (hx : x ≠ 0) (h : signRat x ≠ signRat acc)
    (xs : List Rat) : simplifyFrom acc (x :: xs) = acc :: simplifyFrom x xs := by
  rw [simplifyFrom, if_neg hx, if_neg hacc, if_neg h]

/-- What follows an element matters only through the runs it completes. -/
theorem simplifyFrom_cons_congr {xs ys : List Rat} (h : ∀ acc, simplifyFrom acc xs = simplifyFrom acc ys)
    (acc x : Rat) : simplifyFrom acc (x :: xs) = simplifyFrom acc (x :: ys) := by
  simp only [simplifyFrom, h]

/-- Two Durations that are not zero have one sign exactly when their product is positive (00_scope.md R9). -/
theorem mul_pos_iff_signRat {x y : Rat} (hx : x ≠ 0) (hy : y ≠ 0) : 0 < x * y ↔ signRat y = signRat x := by
  rcases lt_or_gt_of_ne hx with h | h <;> rcases lt_or_gt_of_ne hy with h' | h'
  · simp [signRat_of_neg h, signRat_of_neg h', mul_pos_of_neg_of_neg h h']
  · simp [signRat_of_neg h, signRat_of_pos h', (mul_neg_of_neg_of_pos h h').le]
  · simp [signRat_of_pos h, signRat_of_neg h', (mul_neg_of_pos_of_neg h h').le]
  · simp [signRat_of_pos h, signRat_of_pos h', mul_pos h h']

theorem signRat_eq_of_mul_pos {x y : Rat} (h : 0 < x * y) : signRat y = signRat x :=
  (mul_pos_iff_signRat (left_ne_zero_of_mul h.ne') (right_ne_zero_of_mul h.ne')).mp h

/-- The sum of two Durations of one sign has that sign, too. -/
theorem mul_add_pos_of_mul_pos {x y : Rat} (h : 0 < x * y) : 0 < x * (x + y) := by
  rw [mul_add]
  exact add_pos_of_nonneg_of_pos (mul_self_nonneg x) h

/-- Two neighbours of one sign count as their sum. -/
theorem simplifyFrom_merge_of_mul_pos (acc : Rat) {x y : Rat} (h : 0 < x * y) (xs : List Rat) :
    simplifyFrom acc (x :: y :: xs) = simplifyFrom acc ((x + y) :: xs) := by
  have hx : x ≠ 0 := left_ne_zero_of_mul h.ne'
  have hy : y ≠ 0 := right_ne_zero_of_mul h.ne'
  have hsum : x + y ≠ 0 := right_ne_zero_of_mul (mul_add_pos_of_mul_pos h).ne'
  have hsumSign : signRat (x + y) = signRat x := signRat_eq_of_mul_pos (mul_add_pos_of_mul_pos h)
  have hySign : signRat y = signRat x := signRat_eq_of_mul_pos h
  by_cases hacc : acc = 0
  · subst hacc
    rcases mul_pos_iff.mp h with ⟨hxpos, hypos⟩ | ⟨hxneg, hyneg⟩
    · rw [simplifyFrom_none_of_pos hxpos, simplifyFrom_of_signRat_eq hx hy hySign,
        simplifyFrom_none_of_pos (add_pos hxpos hypos)]
    · rw [simplifyFrom_none_of_neg hxneg, simplifyFrom_none_of_neg hyneg,
        simplifyFrom_none_of_neg (add_neg hxneg hyneg)]
  · by_cases hsign : signRat x = signRat acc
    · have hrun : 0 < acc * (acc + x) := mul_add_pos_of_mul_pos ((mul_pos_iff_signRat hacc hx).mpr hsign)
      have hrunSign : signRat y = signRat (acc + x) := by rw [hySign, hsign, signRat_eq_of_mul_pos hrun]
      rw [simplifyFrom_of_signRat_eq hacc hx hsign,
        simplifyFrom_of_signRat_eq (right_ne_zero_of_mul hrun.ne') hy hrunSign,
        simplifyFrom_of_signRat_eq hacc hsum (hsumSign.trans hsign), add_assoc]
    · rw [simplifyFrom_of_signRat_ne hacc hx hsign, simplifyFrom_of_signRat_eq hx hy hySign,
        simplifyFrom_of_signRat_ne hacc hsum (hsumSign ▸ hsign)]

/-- Two neighbours that are not of opposite signs count as their sum. -/
theorem simplifyFrom_merge (acc : Rat) {x y : Rat} (h : 0 ≤ x * y) (xs : List Rat) :
    simplifyFrom acc (x :: y :: xs) = simplifyFrom acc ((x + y) :: xs) := by
  rcases h.lt_or_eq with hpos | hzero
  · exact simplifyFrom_merge_of_mul_pos acc hpos xs
  · rcases mul_eq_zero.mp hzero.symm with rfl | rfl
    · rw [simplifyFrom_zero_cons, zero_add]
    · rw [add_zero]
      exact simplifyFrom_cons_congr (fun acc' => simplifyFrom_zero_cons acc' xs) acc x

/-- A run of equal Durations counts as one of their total length. -/
theorem simplifyFrom_replicate_append (acc : Rat) (n : Nat) (x : Rat) (xs : List Rat) :
    simplifyFrom acc (List.replicate n x ++ xs) = simplifyFrom acc ((n : Rat) * x :: xs) := by
  induction n generalizing acc with
  | zero => simp
  | succ n ih =>
    have hsame : 0 ≤ x * ((n : Rat) * x) := by
      rw [mul_left_comm]
      exact mul_nonneg n.cast_nonneg (mul_self_nonneg x)
    calc simplifyFrom acc (List.replicate (n + 1) x ++ xs)
        = simplifyFrom acc (x :: (List.replicate n x ++ xs)) := by rw [List.replicate_succ, List.cons_append]
      _ = simplifyFrom acc (x :: (n : Rat) * x :: xs) := simplifyFrom_cons_congr ih acc x
      _ = simplifyFrom acc ((x + (n : Rat) * x) :: xs) := simplifyFrom_merge acc hsame xs
      _ = simplifyFrom acc (((n + 1 : Nat) : Rat) * x :: xs) := by rw [Nat.cast_succ, add_one_mul, add_comm x]

/-! ### In what sense BITIFY and UNBITIFY are inverse (R111) -/

/-- A whole number of units is as many ticks of its sign, exactly. -/
theorem offBy_int_mul (k : Int) {u : Rat} (hu : 0 < u) : offBy ((k : Rat) * u) k.natAbs u = 0 := by
  rw [offBy, abs_mul, abs_of_pos hu, Nat.cast_natAbs, Int.cast_abs, sub_self, abs_zero]

theorem signRat_int_mul (k : Int) {u : Rat} (hu : 0 < u) : signRat ((k : Rat) * u) = k.sign := by
  rcases lt_trichotomy k 0 with hk | rfl | hk
  · rw [signRat_of_neg (mul_neg_of_neg_of_pos (Int.cast_lt_zero.mpr hk) hu), Int.sign_eq_neg_one_of_neg hk]
  · simp
  · rw [signRat_of_pos (mul_pos (Int.cast_pos.mpr hk) hu), Int.sign_eq_one_of_pos hk]

/-- The Durations of the claims, without the coercion of the list. -/
theorem inUnits_eq_map (u : Rat) (ts : List Int) : inUnits u ts = ts.map fun k : Int => (k : Rat) * u := by
  simp only [inUnits, bind_pure_comp, List.map_eq_map, List.map_map, Function.comp_def]

theorem quantizes_inUnits {u : Rat} (hu : 0 < u) (ts : List Int) : Quantizes u (inUnits u ts) (ts.map Int.natAbs) := by
  rw [Quantizes, inUnits_eq_map, List.forall₂_map_left_iff, List.forall₂_map_right_iff, List.forall₂_same]
  intro k _
  rw [offBy_int_mul k hu]
  positivity

theorem tickRuns_inUnits {u : Rat} (hu : 0 < u) (ts : List Int) :
    tickRuns (inUnits u ts) (ts.map Int.natAbs) = ts.flatMap fun k => List.replicate k.natAbs k.sign := by
  induction ts with
  | nil => rfl
  | cons k ts ih =>
    rw [List.flatMap_cons, ← ih, ← signRat_int_mul k hu, inUnits_eq_map, inUnits_eq_map, List.map_cons, List.map_cons,
      tickRuns_cons]

theorem inUnits_tickRuns_cons (u d : Rat) (ds : List Rat) (n : Nat) (ns : List Nat) :
    inUnits u (tickRuns (d :: ds) (n :: ns)) = List.replicate n (tickOf d * u) ++ inUnits u (tickRuns ds ns) := by
  simp only [inUnits_eq_map, tickRuns_cons, List.map_append, List.map_replicate, cast_signRat]

/-- Unit by unit or one Duration for each run: SIMPLIFY sees no difference (R111). -/
theorem simplifyFrom_inUnits_tickRuns (acc u : Rat) (ds : List Rat) (ns : List Nat) :
    simplifyFrom acc (inUnits u (tickRuns ds ns))
      = simplifyFrom acc (List.zipWith (fun d (n : Nat) => tickOf d * ((n : Rat) * u)) ds ns) := by
  induction ds generalizing acc ns with
  | nil => rfl
  | cons d ds ih =>
    cases ns with
    | nil => rfl
    | cons n ns =>
      rw [inUnits_tickRuns_cons, simplifyFrom_replicate_append, mul_left_comm, List.zipWith_cons_cons]
      exact simplifyFrom_cons_congr (fun acc' => ih acc' ns) acc _

/-- Settles O29: whole numbers of units are quantized to themselves, and SIMPLIFY joins each run of unit ticks again. -/
theorem bitifyInvertsUnbitifyUnitByUnit : Obligations.BitifyInvertsUnbitifyUnitByUnit := by
  refine ⟨fun tie u ts hu => ?_, fun tie u ds ns ts hu h hts => ?_⟩
  · rw [bitify_of_quantizes tie hu (quantizes_inUnits hu ts), tickRuns_inUnits hu]
  · obtain rfl : tickRuns ds ns = ts := Except.ok.inj ((bitify_of_quantizes tie hu h).symm.trans hts)
    simp only [bind_pure_comp, List.map_eq_map, List.zipWith_map_right]
    exact simplifyFrom_inUnits_tickRuns 0 u ds ns

end Sys2Proof.Proofs
end

section
/-! PROOFS. The statements of 41_normalizer.md: SIMPLIFY (R120 to R122), PAIRED (R124 to R126), the two trims (R128,
R129) and REPEAT (R132). -/

namespace Sys2Proof.Proofs

open Sys2Proof.Machine Sys2Proof.Claims

/-! ### SIMPLIFY sums each run (R120) -/

theorem placeSign_succ (k : Nat) : placeSign (k + 1) = -placeSign k := by
  rcases Nat.mod_two_eq_zero_or_one k with h | h <;> simp [placeSign, Nat.add_mod, h]

theorem placeSign_mul_self (k : Nat) : placeSign k * placeSign k = 1 := by
  unfold placeSign
  split <;> norm_num

/-- Marks and spaces in one wording: times the sign of its place, no element of a run is negative and one is positive. -/
theorem isRun_iff_placeSign (k : Nat) (run : List Rat) :
    IsRun k run ↔ (∀ x ∈ run, 0 ≤ placeSign k * x) ∧ ∃ x ∈ run, 0 < placeSign k * x := by
  unfold IsRun placeSign
  split <;> simp

theorem placeSign_mul_sum_pos {k : Nat} {run : List Rat} (h : IsRun k run) : 0 < placeSign k * run.sum := by
  obtain ⟨hnonneg, hpos⟩ := (isRun_iff_placeSign k run).mp h
  rw [← smul_eq_mul, List.smul_sum]
  simpa using List.sum_lt_sum (fun _ => (0 : Rat)) (placeSign k • ·) hnonneg hpos

/-- Elements of which none has the sign opposite to the place `k` count as their sum. -/
theorem simplifyFrom_run_append {k : Nat} {run : List Rat} (h : ∀ x ∈ run, 0 ≤ placeSign k * x) (acc : Rat)
    (xs : List Rat) : simplifyFrom acc (run ++ xs) = simplifyFrom acc (run.sum :: xs) := by
  induction run generalizing acc with
  | nil => simp
  | cons x run ih =>
    obtain ⟨hx, hrun⟩ := List.forall_mem_cons.mp h
    have hsum : 0 ≤ placeSign k * run.sum := by
      rw [← smul_eq_mul, List.smul_sum]
      exact List.sum_nonneg (List.forall_mem_map.mpr hrun)
    have hsame : 0 ≤ x * run.sum := by
      calc 0 ≤ placeSign k * x * (placeSign k * run.sum) := mul_nonneg hx hsum
        _ = x * run.sum := by rw [mul_mul_mul_comm, placeSign_mul_self, one_mul]
    calc simplifyFrom acc (x :: run ++ xs) = simplifyFrom acc (x :: run.sum :: xs) :=
          simplifyFrom_cons_congr (ih hrun) acc x
      _ = simplifyFrom acc ((x :: run).sum :: xs) := by rw [simplifyFrom_merge acc hsame, List.sum_cons]

theorem simplifyFrom_flatten_runs {runs : List (List Rat)} (h : ∀ run ∈ runs, ∃ k, IsRun k run) (acc : Rat) :
    simplifyFrom acc runs.flatten = simplifyFrom acc (runs.map List.sum) := by
  induction runs generalizing acc with
  | nil => rfl
  | cons run runs ih =>
    obtain ⟨⟨k, hrun⟩, hruns⟩ := List.forall_mem_cons.mp h
    obtain ⟨hnonneg, -⟩ := (isRun_iff_placeSign k run).mp hrun
    rw [List.flatten_cons, simplifyFrom_run_append hnonneg, List.map_cons]
    exact simplifyFrom_cons_congr (ih hruns) acc run.sum

/-- Before the first mark nothing begins a run. -/
theorem simplifyFrom_lead_append {lead : List Rat} (h : ∀ x ∈ lead, x ≤ 0) (xs : List Rat) :
    simplifyFrom 0 (lead ++ xs) = simplifyFrom 0 xs := by
  induction lead with
  | nil => rfl
  | cons x lead ih =>
    obtain ⟨hx, hlead⟩ := List.forall_mem_cons.mp h
    rw [List.cons_append, ← ih hlead]
    rcases hx.lt_or_eq with hneg | rfl
    · exact simplifyFrom_none_of_neg hneg _
    · exact simplifyFrom_zero_cons 0 _

/-- Elements that have the signs of their places, a mark at place 0, form a normalized signal (R121). -/
theorem normalized_of_placeSign {xs : List Rat} (h : ∀ k x, xs[k]? = some x → 0 < placeSign k * x) : Normalized xs := by
  refine ⟨fun x hx => ?_, fun x hx => ?_, List.isChain_iff_getElem.mpr fun k hk => ?_⟩
  · obtain ⟨k, hk⟩ := List.mem_iff_getElem?.mp hx
    exact right_ne_zero_of_mul (h k x hk).ne'
  · simpa [placeSign] using h 0 x (List.head?_eq_getElem? ▸ hx)
  · have hmark := h k _ (List.getElem?_eq_getElem (by omega))
    have hspace := h (k + 1) _ (List.getElem?_eq_getElem hk)
    have hprod := mul_pos hmark hspace
    rw [placeSign_succ, neg_mul, mul_neg, mul_mul_mul_comm, placeSign_mul_self, one_mul] at hprod
    exact neg_pos.mp hprod

theorem sums_normalized {runs : List (List Rat)} (h : ∀ k run, runs[k]? = some run → IsRun k run) :
    Normalized (runs.map List.sum) := by
  refine normalized_of_placeSign fun k x hx => ?_
  obtain ⟨run, hrun, rfl⟩ := Option.map_eq_some_iff.mp (List.getElem?_map ▸ hx)
  exact placeSign_mul_sum_pos (h k run hrun)

/-! ### SIMPLIFY and normalized signals (R121, R122) -/

/-- A run in progress ends at once where the signal goes on with the other class. -/
theorem simplifyFrom_of_alternates {acc : Rat} {xs : List Rat} (hacc : acc ≠ 0) (h : Alternates (-cls acc) xs) :
    simplifyFrom acc xs = acc :: xs := by
  induction xs generalizing acc with
  | nil => exact if_neg hacc
  | cons x xs ih =>
    obtain ⟨hx, hcls, hxs⟩ := h
    have hneg : x * acc < 0 := (mul_neg_iff_cls hx hacc).mpr (by rw [hcls, neg_neg])
    have hsign : signRat x ≠ signRat acc := fun hs => hneg.not_gt ((mul_pos_iff_signRat hx hacc).mpr hs.symm)
    rw [simplifyFrom_of_signRat_ne hacc hx hsign, ih hx (hcls ▸ hxs)]

theorem simplify_of_normalized {xs : List Rat} (h : Normalized xs) : simplify xs = xs := by
  cases xs with
  | nil => rw [simplify, simplifyFrom, if_pos rfl]
  | cons x xs =>
    obtain ⟨hx, hcls, hxs⟩ := (normalized_iff_alternates _).mp h
    obtain ⟨-, hhead, -⟩ := h
    rw [simplify, simplifyFrom_none_of_pos (hhead x rfl)]
    exact simplifyFrom_of_alternates hx (hcls ▸ hxs)

theorem simplify_eq_self_iff (xs : List Rat) : simplify xs = xs ↔ Normalized xs :=
  ⟨fun h => h ▸ simplify_normalized xs, simplify_of_normalized⟩

theorem exec_simplify (s : State) : exec .simplify s = .next (s.putD (simplify s.bufD)) := rfl

/-- Settles O30: the leading part is skipped, each run counts as its sum, and the sums are normalized already. -/
theorem simplifySumsEachRun : Obligations.SimplifySumsEachRun := by
  intro s lead runs hD hlead hruns
  have hsums : simplify s.bufD = runs.map List.sum := by
    calc simplify s.bufD = simplifyFrom 0 runs.flatten := by rw [hD, simplify, simplifyFrom_lead_append hlead]
      _ = simplify (runs.map List.sum) := simplifyFrom_flatten_runs (fun run hrun => by
          obtain ⟨k, hk⟩ := List.mem_iff_getElem?.mp hrun
          exact ⟨k, hruns k run hk⟩) 0
      _ = runs.map List.sum := simplify_of_normalized (sums_normalized hruns)
  rw [exec_simplify, hsums]
  rfl

theorem putD_eq_self_iff (s : State) (xs : List Rat) : s.putD xs = s ↔ xs = s.bufD :=
  ⟨fun h => congrArg State.bufD h, fun h => h ▸ rfl⟩

/-- Settles O31: SIMPLIFY writes a normalized signal, and the normalized signals are its fixed points. -/
theorem simplifyNormalizesAndIsIdempotent : Obligations.SimplifyNormalizesAndIsIdempotent := by
  refine ⟨fun s => ⟨simplify s.bufD, rfl, simplify_normalized _, ?_⟩, fun s => ?_⟩
  · rw [exec_simplify, simplify_of_normalized (simplify_normalized s.bufD)]
    rfl
  · rw [exec_simplify, Host.Outcome.next.injEq, putD_eq_self_iff, simplify_eq_self_iff]

/-! ### PAIRED (R124 to R126) -/

theorem pairedFrom_of_cls_eq {x : Rat} {c : Int} (h : cls x = c) (ts : Rat) (xs : List Rat) :
    pairedFrom ts c (x :: xs) = x :: pairedFrom ts (-c) xs := if_neg (not_not.mpr h)

theorem pairedFrom_of_cls_ne {x : Rat} {c : Int} (h : cls x ≠ c) (ts : Rat) (xs : List Rat) :
    pairedFrom ts c (x :: xs) = 0 :: x :: pairedFrom ts c xs := if_pos h

/-- A space where a mark is expected: its mark is missing. -/
theorem paired_of_neg {x : Rat} (h : x < 0) (xs : List Rat) (ts : Rat) : paired (x :: xs) ts = 0 :: x :: paired xs ts :=
  pairedFrom_of_cls_ne (by rw [cls_of_neg h]; decide) ts xs

theorem paired_mark_space {x y : Rat} (hx : 0 ≤ x) (hy : y < 0) (xs : List Rat) (ts : Rat) :
    paired (x :: y :: xs) ts = x :: y :: paired xs ts := by
  rw [paired, pairedFrom_of_cls_eq (cls_of_nonneg hx), pairedFrom_of_cls_eq (cls_of_neg hy)]
  rfl

/-- A mark where a space is expected: the space of the mark before is missing. -/
theorem paired_mark_mark {x y : Rat} (hx : 0 ≤ x) (hy : 0 ≤ y) (xs : List Rat) (ts : Rat) :
    paired (x :: y :: xs) ts = x :: 0 :: paired (y :: xs) ts := by
  rw [paired, pairedFrom_of_cls_eq (cls_of_nonneg hx), pairedFrom_of_cls_ne (by rw [cls_of_nonneg hy]; decide),
    paired, pairedFrom_of_cls_eq (cls_of_nonneg hy)]

/-- The loop of PAIRED writes the pairs of the claims (R124). -/
theorem paired_eq_pairUp (xs : List Rat) (ts : Rat) : paired xs ts = pairUp ts xs := by
  fun_induction pairUp ts xs
  case case1 => rfl
  case case2 x hx => exact paired_of_neg hx [] ts
  case case3 x hx => exact pairedFrom_of_cls_eq (cls_of_nonneg (not_lt.mp hx)) ts []
  case case4 x y rest hx ih => rw [paired_of_neg hx, ih]
  case case5 x y rest hx hy ih => rw [paired_mark_space (not_lt.mp hx) hy, ih]
  case case6 x y rest hx hy ih => rw [paired_mark_mark (not_lt.mp hx) (not_lt.mp hy), ih]

theorem exec_paired (s : State) : exec .paired s = .next (commitD s (.ok (paired s.bufD s.qTrail))) := rfl

theorem closeWith_length_le (ts : Rat) (xs : List Rat) : (closeWith ts xs).length ≤ xs.length + 1 := by
  unfold closeWith
  split <;> simp

/-- Settles O32: the loop writes the pairs, on a normalized signal the signal itself, closed; then the room in `D`. -/
theorem pairedWritesMarkSpacePairs : Obligations.PairedWritesMarkSpacePairs := by
  refine fun s => ⟨fun hroom => ?_, fun hroom => ?_, fun hnorm hroom => ?_⟩
  · rw [exec_paired, paired_eq_pairUp, commitD_of_room hroom]
    rfl
  · rw [exec_paired, paired_eq_pairUp, commitD_of_no_room hroom]
  · have hfits : room s.cfg.dcap (closeWith s.qTrail s.bufD).length = true := by
      rw [← fits_eq_room] at hroom ⊢
      exact fits_mono (closeWith_length_le _ _) hroom
    rw [exec_paired, paired_of_normalized hnorm, commitD_of_room hfits]
    rfl

/-- Pairs of an element of 0 or more and one of 0 or less (R126). -/
def MarkSpacePairs (ys : List Rat) : Prop :=
  ys.length % 2 = 0 ∧ ∀ k y, ys[k]? = some y → if k % 2 = 0 then 0 ≤ y else y ≤ 0

theorem markSpacePairs_nil : MarkSpacePairs [] := ⟨rfl, by simp⟩

theorem markSpacePairs_cons_cons {m p : Rat} {ys : List Rat} (hm : 0 ≤ m) (hp : p ≤ 0) (h : MarkSpacePairs ys) :
    MarkSpacePairs (m :: p :: ys) := by
  obtain ⟨heven, hsigns⟩ := h
  refine ⟨(Nat.add_mod_right ys.length 2).trans heven, fun k y hy => ?_⟩
  match k with
  | 0 => simpa using hm.trans_eq (Option.some.inj hy)
  | 1 => simpa using (Option.some.inj hy).symm.trans_le hp
  | k + 2 => simpa using hsigns k y hy

theorem pairUp_markSpacePairs {ts : Rat} (hts : ts ≤ 0) (xs : List Rat) : MarkSpacePairs (pairUp ts xs) := by
  fun_induction pairUp ts xs
  case case1 => exact markSpacePairs_nil
  case case2 x hx => exact markSpacePairs_cons_cons le_rfl hx.le markSpacePairs_nil
  case case3 x hx => exact markSpacePairs_cons_cons (not_lt.mp hx) hts markSpacePairs_nil
  case case4 x y rest hx ih => exact markSpacePairs_cons_cons le_rfl hx.le ih
  case case5 x y rest hx hy ih => exact markSpacePairs_cons_cons (not_lt.mp hx) hy.le ih
  case case6 x y rest hx hy ih => exact markSpacePairs_cons_cons (not_lt.mp hx) le_rfl ih

/-- Settles O33, pair by pair. -/
theorem pairedResultAlternates : Obligations.PairedResultAlternates := by
  intro xs ts hts
  rw [paired_eq_pairUp]
  exact pairUp_markSpacePairs hts xs

/-! ### The trims (R128, R129) -/

theorem trimLeading_eq_dropWhile (xs : List Rat) : trimLeading xs = xs.dropWhile (· ≤ 0) := by
  induction xs with
  | nil => rfl
  | cons x xs ih => by_cases hx : x ≤ 0 <;> simp [trimLeading, hx, ih]

theorem trimLeading_append {silent rest : List Rat} (hsilent : ∀ x ∈ silent, x ≤ 0)
    (hrest : ∀ x, rest.head? = some x → 0 < x) : trimLeading (silent ++ rest) = rest := by
  rw [trimLeading_eq_dropWhile, List.dropWhile_append_of_pos (by simpa using hsilent)]
  cases rest with
  | nil => rfl
  | cons x rest => exact List.dropWhile_cons_of_neg (by simpa using hrest x rfl)

theorem trimTrailing_append {rest silent : List Rat} (hsilent : ∀ x ∈ silent, x ≤ 0)
    (hrest : ∀ x, rest.getLast? = some x → 0 < x) : trimTrailing (rest ++ silent) = rest := by
  rw [trimTrailing, List.reverse_append, trimLeading_append (by simpa using hsilent)
    (by simpa only [List.head?_reverse] using hrest), List.reverse_reverse]

theorem exec_trimL (s : State) : exec .trimL s = .next (s.putD (trimLeading s.bufD)) := rfl

theorem exec_trimT (s : State) : exec .trimT s = .next (s.putD (trimTrailing s.bufD)) := rfl

/-- Settles O34. -/
theorem trimLeadingRemovesTheLongestSilentPrefix : Obligations.TrimLeadingRemovesTheLongestSilentPrefix := by
  intro s silent rest hD hsilent hrest
  rw [exec_trimL, hD, trimLeading_append hsilent hrest]
  rfl

/-- Settles O35, the mirror image of O34. -/
theorem trimTrailingRemovesTheLongestSilentSuffix : Obligations.TrimTrailingRemovesTheLongestSilentSuffix := by
  intro s rest silent hD hsilent hrest
  rw [exec_trimT, hD, trimTrailing_append hsilent hrest]
  rfl

/-! ### REPEAT (R132) -/

theorem exec_repeatSignal_of_le_one {s : State} (h : s.pCount.toInt ≤ 1) : exec .repeatSignal s = .next s :=
  if_neg h.not_gt

theorem exec_repeatSignal_of_one_lt {s : State} {n : Nat} (hn : s.pCount.toInt = n) (h : 1 < n) :
    exec .repeatSignal s = .next (commitD s (.ok (List.replicate n s.bufD).flatten)) := by
  have hone : (1 : Int) < n := by omega
  have hexec : exec .repeatSignal s = .next (commitD s (.ok (repeatSequence s.pCount.toInt s.bufD))) :=
    if_pos (hn ▸ hone)
  rw [hexec, hn, repeatSequence, if_pos hone, Int.toNat_natCast]

/-- Element `k` of copies of a signal is element `k` of the signal, counted round. -/
theorem getElem?_flatten_replicate {n k : Nat} {xs : List Rat} (hk : k < n * xs.length) :
    (List.replicate n xs).flatten[k]? = xs[k % xs.length]? := by
  induction n generalizing k with
  | zero => simp at hk
  | succ n ih =>
    rw [List.replicate_succ, List.flatten_cons]
    rcases lt_or_ge k xs.length with hfirst | hlater
    · rw [List.getElem?_append_left hfirst, Nat.mod_eq_of_lt hfirst]
    · rw [Nat.succ_mul] at hk
      rw [List.getElem?_append_right hlater, ih (by omega), Nat.mod_eq_sub_mod hlater]

/-- Settles O36: the copies, counted round, and the room in `D`. -/
theorem repeatConcatenatesCopies : Obligations.RepeatConcatenatesCopies := by
  refine fun s => ⟨exec_repeatSignal_of_le_one, fun n hn hone => ?_⟩
  have hsize : (List.replicate n s.bufD).flatten.length = n * s.bufD.length := by simp
  rw [exec_repeatSignal_of_one_lt hn hone]
  refine ⟨fun hroom => ⟨(List.replicate n s.bufD).flatten, ?_, hsize, fun k hk => ?_⟩, fun hroom => ?_⟩
  · rw [commitD_of_room (by rwa [hsize])]
    rfl
  · exact getElem?_flatten_replicate (hsize ▸ hk)
  · rw [commitD_of_no_room (by rwa [hsize])]

end Sys2Proof.Proofs
end

section
/-! PROOFS. The statements of 42_nec.md: the twenty command words (R149), the frame of an NEC encoder and the operands it
accepts (R140 to R144), what the variants share (R145), and that a frame is normalized (R148). -/

namespace Sys2Proof.Proofs

open Sys2Proof.Machine Sys2Proof.Claims

/-! ### The twenty words (R149) -/

theorem encode_necInstr (v : NecVariant) (x : NecSuffix) :
    encode (necInstr v x) = commandWord 0x30#8 (necModifier v x) := by
  rw [encode, fields_necInstr]

/-- Settles O6: `OP` is 0x30 and `MOD` is `variant + 4 · suffix`. -/
theorem twentyNecWords : Obligations.TwentyNecWords := by
  simp only [Obligations.TwentyNecWords, encode_necInstr]
  decide

/-! ### The value each byte is sent as -/

theorem byteOf_lt (v : Int) : byteOf v < 256 := by
  unfold byteOf
  omega

theorem byteOf_natCast {n : Nat} (h : n < 256) : byteOf n = n := by
  unfold byteOf
  omega

/-- `-v - 1` is sent as the 8-bit complement (40_primitives.md R102). -/
theorem byteOf_neg_sub_one (v : Int) : byteOf (-v - 1) = 255 - byteOf v := by
  unfold byteOf
  omega

theorem fieldRange_byte_iff (v : Int) : fieldRange v 8 ↔ -256 ≤ v ∧ v ≤ 255 := by norm_num [fieldRange]

theorem fieldRange_natCast {n : Nat} (h : n < 256) : fieldRange n 8 := by
  rw [fieldRange_byte_iff]
  omega

/-- The third byte is that of the function; a function is reduced, never refused (R140, R144). -/
theorem necThird_eq (fn : Int) : necThird fn = (byteOf fn : Int) := by
  unfold necThird byteOf
  omega

theorem byteOf_necThird (fn : Int) : byteOf (necThird fn) = byteOf fn := by
  rw [necThird_eq, byteOf_natCast (byteOf_lt fn)]

theorem fieldRange_necThird (fn : Int) : fieldRange (necThird fn) 8 := by
  rw [necThird_eq]
  exact fieldRange_natCast (byteOf_lt fn)

theorem byteOf_necSecond (dev sub : Int) : byteOf (necSecond dev sub) = necSecondByte dev sub := by
  rw [necSecond, necSecondByte, apply_ite byteOf, byteOf_neg_sub_one]

/-- With the device accepted, the second byte refuses a subdevice above 255 and nothing else (R142, R144). -/
theorem fieldRange_necSecond_iff {dev : Int} (sub : Int) (hdev : fieldRange dev 8) :
    fieldRange (necSecond dev sub) 8 ↔ sub ≤ 255 := by
  rw [fieldRange_byte_iff] at *
  unfold necSecond
  split <;> omega

/-- The Yamaha suffixes flip bits of the function's byte (R143). -/
theorem xorByte_necThird (fn : Int) (mask : Nat) : xorByte (necThird fn) mask = ((byteOf fn ^^^ mask : Nat) : Int) := by
  rw [necThird_eq, xorByte, Int.toNat_natCast, Int.toNat_natCast]

theorem byteOf_xor_lt (fn : Int) {mask : Nat} (h : mask < 256) : byteOf fn ^^^ mask < 256 :=
  Nat.xor_lt_two_pow (n := 8) (byteOf_lt fn) h

theorem byteOf_xorByte (fn : Int) {mask : Nat} (h : mask < 256) :
    byteOf (xorByte (necThird fn) mask) = byteOf fn ^^^ mask := by
  rw [xorByte_necThird, byteOf_natCast (byteOf_xor_lt fn h)]

theorem fieldRange_xorByte (fn : Int) {mask : Nat} (h : mask < 256) : fieldRange (xorByte (necThird fn) mask) 8 := by
  rw [xorByte_necThird]
  exact fieldRange_natCast (byteOf_xor_lt fn h)

theorem byteOf_necFourth (x : NecSuffix) (fn : Int) : byteOf (necFourth x (necThird fn) fn) = necFourthByte x fn := by
  cases x
  case standard => rw [necFourth, byteOf_neg_sub_one, byteOf_necThird, necFourthByte]
  case y1 | y2 | y3 => exact byteOf_xorByte fn (by decide)
  case f16 => rfl

/-- The fourth byte refuses a function of more than 16 bits under the suffix F16, and nothing else (R143). -/
theorem fieldRange_necFourth_iff (x : NecSuffix) (fn : Int) :
    fieldRange (necFourth x (necThird fn) fn) 8 ↔ (x = .f16 → -65536 ≤ fn ∧ fn ≤ 65535) := by
  cases x
  case standard =>
    have hlt := byteOf_lt fn
    rw [necFourth, necThird_eq, fieldRange_byte_iff]
    simp only [reduceCtorEq, false_implies, iff_true]
    omega
  case y1 | y2 | y3 => exact iff_of_true (fieldRange_xorByte fn (by decide)) nofun
  case f16 =>
    rw [necFourth, fieldRange_byte_iff]
    simp only [true_implies]
    omega

/-- The operands are accepted exactly when every byte of the frame is (R144). -/
theorem necAccepts_iff (x : NecSuffix) (dev sub fn : Int) :
    NecAccepts x dev sub fn ↔ fieldRange dev 8 ∧ fieldRange (necSecond dev sub) 8
      ∧ fieldRange (necFourth x (necThird fn) fn) 8 := by
  rw [NecAccepts, fieldRange_necFourth_iff]
  exact and_congr_right fun hdev => and_congr_left' (fieldRange_necSecond_iff sub hdev).symm

/-! ### The frame (R140, R141) -/

theorem msbBits_reverse (w : Nat) (v : Int) :
    (msbBits w v).reverse = (List.range w).map fun k => (v % 2 ^ w).toNat.testBit k := by
  refine List.ext_getElem (by simp) fun k hk _ => ?_
  have hk' : k < w := by simpa using hk
  simp only [msbBits, List.getElem_reverse, List.getElem_map, List.getElem_range, List.length_map, List.length_range]
  congr 1
  omega

/-- An accepted byte is sent least significant bit first (R141). -/
theorem necByte_of_fieldRange {v : Int} (h : fieldRange v 8) : necByte v = .ok (necByteTicks (byteOf v)) := by
  have hbits : u2b v 8 = .ok (msbBits 8 v) := u2b_of_fieldRange (by decide) h
  rw [necByte, hbits, Except.map, msbBits_reverse, List.flatMap_map]
  rfl

theorem fieldRange_of_necByte_eq_ok {v : Int} {ticks : List Int} (h : necByte v = .ok ticks) : fieldRange v 8 := by
  rcases necByte_cases v with ⟨-, herr⟩ | ⟨bits, hbits, -⟩
  · rw [herr] at h; cases h
  · by_contra hout
    rw [u2b_of_out_of_range (.inr (.inr hout))] at hbits
    cases hbits

theorem necLeaderOf_eq_leaderUnits (t : NecLeader) (v : NecVariant) : necLeaderOf t v = leaderUnits t v := by
  cases v <;> rfl

theorem necFrame_of_accepts {x : NecSuffix} {dev sub fn : Int} (t : NecLeader) (v : NecVariant)
    (h : NecAccepts x dev sub fn) : necFrame t v x dev sub fn = .ok (necTicks t v x dev sub fn) := by
  obtain ⟨hfirst, hsecond, hfourth⟩ := (necAccepts_iff x dev sub fn).mp h
  simp only [necFrame, necByte_of_fieldRange hfirst, necByte_of_fieldRange hsecond,
    necByte_of_fieldRange (fieldRange_necThird fn), necByte_of_fieldRange hfourth, byteOf_necSecond, byteOf_necThird,
    byteOf_necFourth, necLeaderOf_eq_leaderUnits, necTicks]

theorem necAccepts_of_frame_eq_ok {t : NecLeader} {v : NecVariant} {x : NecSuffix} {dev sub fn : Int} {ticks : List Int}
    (h : necFrame t v x dev sub fn = .ok ticks) : NecAccepts x dev sub fn := by
  unfold necFrame at h
  repeat' split at h
  all_goals cases h
  exact (necAccepts_iff x dev sub fn).mpr ⟨fieldRange_of_necByte_eq_ok ‹necByte dev = _›,
    fieldRange_of_necByte_eq_ok ‹necByte (necSecond dev sub) = _›,
    fieldRange_of_necByte_eq_ok ‹necByte (necFourth x _ fn) = _›⟩

theorem necFrame_of_not_accepts {x : NecSuffix} {dev sub fn : Int} (t : NecLeader) (v : NecVariant)
    (h : ¬ NecAccepts x dev sub fn) : necFrame t v x dev sub fn = .error .domain := by
  cases hframe : necFrame t v x dev sub fn with
  | error e => rw [necFrame_error hframe]
  | ok ticks => exact absurd (necAccepts_of_frame_eq_ok hframe) h

@[simp] theorem necByteTicks_length (b : Nat) : (necByteTicks b).length = 16 := by
  have hbit (k : Nat) : (if b.testBit k then [1, -3] else [1, -1] : List Int).length = 2 := by split <;> rfl
  simp [necByteTicks, List.length_flatMap, hbit]

theorem necTicks_length (t : NecLeader) (v : NecVariant) (x : NecSuffix) (dev sub fn : Int) :
    (necTicks t v x dev sub fn).length = 68 := by
  simp [necTicks]

/-! ### The encoders (R140, R144) -/

theorem exec_necInstr (v : NecVariant) (x : NecSuffix) (s : State) : exec (necInstr v x) s = .next (necEncode v x s) := by
  cases v <;> cases x <;> rfl

/-- The accepted operands of an NEC encoder, read from the state. -/
def NecOperands (x : NecSuffix) (s : State) : Prop := NecAccepts x s.pDevice.toInt s.pSubdevice.toInt s.pFunction.toInt

/-- The 68 ticks an NEC encoder computes in a state. -/
def necTicksOf (v : NecVariant) (x : NecSuffix) (s : State) : List Int :=
  necTicks s.cfg.necLeader v x s.pDevice.toInt s.pSubdevice.toInt s.pFunction.toInt

/-- The three outcomes of an NEC encoder: its frame, DomainError before Overflow, and Overflow. -/
theorem necEncode_spec (v : NecVariant) (x : NecSuffix) (s : State) :
    (NecOperands x s → room s.cfg.dcap 68 = true →
        necEncode v x s = { s with bufD := inUnits s.cfg.uNec.val (necTicksOf v x s) })
      ∧ (¬ NecOperands x s → necEncode v x s = domainError s)
      ∧ (NecOperands x s → room s.cfg.dcap 68 = false → necEncode v x s = overflow s) :=
  commitD_frame_spec s s.cfg.uNec.val (necTicks_length _ _ _ _ _ _) (necFrame_of_accepts _ v)
    (necFrame_of_not_accepts _ v)

/-- Settles O37. -/
theorem necEncodersWriteTheirFrame : Obligations.NecEncodersWriteTheirFrame := by
  intro v x s haccepts hroom
  obtain ⟨hwrites, -, -⟩ := necEncode_spec v x s
  rw [exec_necInstr, hwrites haccepts hroom]
  rfl

/-- Settles O38. -/
theorem necEncodersRefuseBytesOutOfRange : Obligations.NecEncodersRefuseBytesOutOfRange := by
  intro v x s
  obtain ⟨-, hrefuses, hoverflows⟩ := necEncode_spec v x s
  rw [exec_necInstr]
  exact ⟨fun h => congrArg _ (hrefuses h), fun h hroom => congrArg _ (hoverflows h hroom)⟩

/-! ### What the variants share (R145) -/

/-- The variant enters an encoder through its leader mark alone. -/
theorem necEncode_congr {v w : NecVariant} (x : NecSuffix) {s : State}
    (h : leaderUnits s.cfg.necLeader v = leaderUnits s.cfg.necLeader w) : necEncode v x s = necEncode w x s := by
  simp only [necEncode, necFrame, necLeaderOf_eq_leaderUnits, h]

/-- After the leader mark the frames of all variants are the same. -/
theorem exists_rest_necTicksOf (x : NecSuffix) (s : State) :
    ∃ rest, ∀ v, inUnits s.cfg.uNec.val (necTicksOf v x s)
      = (leaderUnits s.cfg.necLeader v : Rat) * s.cfg.uNec.val :: rest := by
  refine ⟨inUnits s.cfg.uNec.val (necTicksOf .nec1 x s).tail, fun v => ?_⟩
  rw [inUnits_eq_map, inUnits_eq_map]
  simp [necTicksOf, necTicks]

/-- Where an NEC encoder writes no frame, every variant raises the same error. -/
theorem exists_necEncode_eq_raise {x : NecSuffix} {s : State} (h : ¬ (NecOperands x s ∧ room s.cfg.dcap 68 = true)) :
    ∃ e, ∀ v, necEncode v x s = s.raise e := by
  by_cases haccepts : NecOperands x s
  · have hroom : room s.cfg.dcap 68 = false := by simpa [haccepts] using h
    refine ⟨.overflow, fun v => ?_⟩
    obtain ⟨-, -, hoverflows⟩ := necEncode_spec v x s
    rw [hoverflows haccepts hroom, raise_overflow]
  · refine ⟨.domain, fun v => ?_⟩
    obtain ⟨-, hrefuses, -⟩ := necEncode_spec v x s
    rw [hrefuses haccepts, raise_domain]

/-- Settles O39: the variants differ in the leader mark alone, which the source's table makes 16 or 8. -/
theorem necVariantsDifferInTheLeaderOnly : Obligations.NecVariantsDifferInTheLeaderOnly := by
  intro x s htable
  simp only [exec_necInstr]
  refine ⟨congrArg _ (necEncode_congr x (by rw [htable]; rfl)), congrArg _ (necEncode_congr x (by rw [htable]; rfl)),
    fun haccepts hroom => ?_, fun hrefused => ?_⟩
  · obtain ⟨rest, hrest⟩ := exists_rest_necTicksOf x s
    have hwrites (v) : necEncode v x s = _ := (necEncode_spec v x s).1 haccepts hroom
    refine ⟨rest, ?_, ?_⟩ <;> rw [hwrites, hrest, htable] <;> rfl
  · obtain ⟨e, he⟩ := exists_necEncode_eq_raise hrefused
    exact ⟨by rw [he, he], s.raise e, by rw [he], raise_fault s e⟩

/-! ### A frame is normalized (R148) -/

theorem posRat_val_pos (p : PosRat) : 0 < p.val := by
  unfold PosRat.val
  positivity

/-- A mark and a space before a signal that begins with a mark. -/
theorem alternates_mark_space {m sp : Rat} {xs : List Rat} (hm : 0 < m) (hsp : sp < 0) (h : Alternates 1 xs) :
    Alternates 1 (m :: sp :: xs) :=
  ⟨hm.ne', cls_of_nonneg hm.le, hsp.ne, cls_of_neg hsp, h⟩

/-- The ticks of a byte are eight marks, each followed by its space (30_encoding.md R78). -/
theorem alternates_necByteTicks_append {u : Rat} (hu : 0 < u) (b : Nat) {ticks : List Int}
    (h : Alternates 1 (inUnits u ticks)) : Alternates 1 (inUnits u (necByteTicks b ++ ticks)) := by
  unfold necByteTicks
  induction List.range 8 with
  | nil => exact h
  | cons k ks ih =>
    rw [inUnits_eq_map] at ih ⊢
    rw [List.flatMap_cons, List.append_assoc]
    split <;> exact alternates_mark_space (by simpa using hu) (by push_cast; linarith) ih

theorem necTicks_normalized {u : Rat} (hu : 0 < u) {t : NecLeader} {v : NecVariant} (hleader : 0 < leaderUnits t v)
    (x : NecSuffix) (dev sub fn : Int) : Normalized (inUnits u (necTicks t v x dev sub fn)) := by
  rw [normalized_iff_alternates]
  have htrailer : Alternates 1 (inUnits u [1, -3]) := by
    rw [inUnits_eq_map]
    exact alternates_mark_space (by simpa using hu) (by push_cast; linarith) trivial
  have hbytes := alternates_necByteTicks_append hu (byteOf dev) <|
    alternates_necByteTicks_append hu (necSecondByte dev sub) <|
    alternates_necByteTicks_append hu (byteOf fn) <|
    alternates_necByteTicks_append hu (necFourthByte x fn) htrailer
  have hmark : 0 < ((leaderUnits t v : Int) : Rat) * u := mul_pos (by exact_mod_cast hleader) hu
  simp only [necTicks, List.append_assoc, List.cons_append, List.nil_append]
  rw [inUnits_eq_map] at hbytes ⊢
  exact alternates_mark_space hmark (by push_cast; linarith) hbytes

/-- Settles O40: the frame is a leader pair, 32 bit pairs and a trailer pair, and SIMPLIFY keeps a normalized signal. -/
theorem necFrameIsNormalized : Obligations.NecFrameIsNormalized := by
  intro v x s haccepts hroom hleader
  have hnormalized := necTicks_normalized (posRat_val_pos s.cfg.uNec) hleader x s.pDevice.toInt s.pSubdevice.toInt
    s.pFunction.toInt
  obtain ⟨-, hkept⟩ := simplifyNormalizesAndIsIdempotent
  exact ⟨_, necEncodersWriteTheirFrame v x s haccepts hroom, hnormalized, (hkept _).mpr hnormalized⟩

end Sys2Proof.Proofs
end

section
/-! PROOFS. The statements of 43_rc5.md: the frame of ENC.RC5 (R160, R162), what DEC.RC5 reads from a signal (R165 to
R169), the round trip (R170), and the ranges of the values the decoders write (R171; 44_rc6.md R191). -/

namespace Sys2Proof.Proofs

open Sys2Proof.Machine Sys2Proof.Claims

/-! ### ENC.RC5 (R160, R162) -/

/-- The thirteen bits after the start bit: field bit, toggle, device and function (R160, R162). -/
def rc5Bits (dev fn tg : Int) : List Bool :=
  [decide (fn < 64)] ++ (msbBits 1 tg ++ (msbBits 5 dev ++ msbBits 6 fn))

theorem rc5Bits_length (dev fn tg : Int) : (rc5Bits dev fn tg).length = 13 := by simp [rc5Bits]

theorem rc5Ticks_eq (dev fn tg : Int) :
    rc5Ticks dev fn tg = ([true] ++ rc5Bits dev fn tg).flatMap rc5Bit ++ [-100] := by
  simp only [rc5Ticks, rc5Bits, List.append_assoc]
  rfl

theorem rc5Frame_of_accepts {dev tg : Int} (fn : Int) (h : Rc5Accepts dev tg) :
    rc5Frame dev fn tg = .ok (rc5Ticks dev fn tg) := by
  obtain ⟨htoggle, hdev⟩ := h
  have toggleOk : field tg 1 rc5Bit = _ := field_of_fieldRange (by decide) htoggle _
  have devOk : field dev 5 rc5Bit = _ := field_of_fieldRange (by decide) hdev _
  have lowRange : fieldRange (fn % 64) 6 := by unfold fieldRange; omega
  have lowOk : field (fn % 64) 6 rc5Bit = _ := field_of_fieldRange (by decide) lowRange _
  have lowBits : msbBits 6 (fn % 64) = msbBits 6 fn := by
    have hmod : fn % 64 % 2 ^ 6 = fn % 2 ^ 6 := by omega
    rw [msbBits, hmod, msbBits]
  simp only [rc5Frame, toggleOk, devOk, lowOk, lowBits, rc5Ticks_eq, rc5Bits, List.flatMap_append,
    List.flatMap_singleton, List.append_assoc]

theorem rc5Accepts_of_frame_eq_ok {dev fn tg : Int} {ticks : List Int} (h : rc5Frame dev fn tg = .ok ticks) :
    Rc5Accepts dev tg := by
  unfold rc5Frame at h
  repeat' split at h
  all_goals cases h
  exact ⟨fieldRange_of_field_eq_ok ‹field tg 1 _ = _›, fieldRange_of_field_eq_ok ‹field dev 5 _ = _›⟩

theorem rc5Frame_of_not_accepts {dev fn tg : Int} (h : ¬ Rc5Accepts dev tg) : rc5Frame dev fn tg = .error .domain := by
  cases hframe : rc5Frame dev fn tg with
  | error e => rw [rc5Frame_error hframe]
  | ok ticks => exact absurd (rc5Accepts_of_frame_eq_ok hframe) h

theorem rc5Ticks_length (dev fn tg : Int) : (rc5Ticks dev fn tg).length = 29 := by
  rw [rc5Ticks, List.length_append, length_flatMap_of_length_eq (k := 2) (by decide)]
  simp

/-- Settles O41: toggle and device are checked in frame order, and the 29 ticks meet the capacity test. -/
theorem encRc5WritesItsFrame : Obligations.EncRc5WritesItsFrame := by
  intro s
  obtain ⟨hwrites, hrefuses, hoverflows⟩ :=
    commitD_frame_spec s uRc5 (rc5Ticks_length _ s.pFunction.toInt _) (rc5Frame_of_accepts _) rc5Frame_of_not_accepts
  exact ⟨fun h hroom => congrArg _ (hwrites h hroom), fun h => congrArg _ (hrefuses h),
    fun h hroom => congrArg _ (hoverflows h hroom)⟩

/-! ### Bits read in a row (R165, R168) -/

/-- The readers' ticks past the end are those of the claims (R166). -/
theorem tick_eq_tickAt (T : List Int) (i : Nat) : tick T i = tickAt T i := rfl

/-- Bits read in a row are read one by one, each at its own pair of ticks. -/
theorem readBits_eq_ok_iff {rd : Nat → Except Err Bool} {i n : Nat} {bs : List Bool} :
    readBits rd i n = .ok bs ↔ (List.range n).map (fun j => rd (i + 2 * j)) = bs.map .ok := by
  induction n generalizing i bs with
  | zero => cases bs <;> simp [readBits]
  | succ n ih =>
    have htail : (List.range n).map ((fun j => rd (i + 2 * j)) ∘ Nat.succ)
        = (List.range n).map fun j => rd (i + 2 + 2 * j) :=
      List.map_congr_left fun j _ => congrArg rd (by omega)
    rw [List.range_succ_eq_map, List.map_cons, List.map_map, htail, mul_zero, add_zero]
    cases bs with
    | nil => rcases readBits_succ_cases rd i n with ⟨e, -, h⟩ | ⟨b, e, -, -, h⟩ | ⟨b, bs, -, -, h⟩ <;> simp [h]
    | cons b bs =>
      rw [List.map_cons, List.cons_eq_cons, ← ih]
      rcases readBits_succ_cases rd i n with ⟨e, hb, h⟩ | ⟨b', e, hb, hrest, h⟩ | ⟨b', rest, hb, hrest, h⟩
      · simp [h, hb]
      · simp [h, hrest]
      · simp [h, hb, hrest]

/-- Reading two strings, one after the other. -/
theorem readBits_append_iff {rd : Nat → Except Err Bool} {i m n : Nat} {xs ys : List Bool} (hxs : xs.length = m) :
    readBits rd i (m + n) = .ok (xs ++ ys) ↔ readBits rd i m = .ok xs ∧ readBits rd (i + 2 * m) n = .ok ys := by
  have hshift : (List.range n).map ((fun j => rd (i + 2 * j)) ∘ (m + ·))
      = (List.range n).map fun j => rd (i + 2 * m + 2 * j) :=
    List.map_congr_left fun j _ => congrArg rd (by rw [mul_add, add_assoc])
  simp only [readBits_eq_ok_iff]
  rw [List.range_add, List.map_append, List.map_append, List.map_map, hshift]
  refine ⟨fun h => List.append_inj h (by simp [hxs]), fun ⟨hx, hy⟩ => by rw [hx, hy]⟩

theorem readBits_one {rd : Nat → Except Err Bool} {i : Nat} {b : Bool} :
    readBits rd i 1 = .ok [b] ↔ rd i = .ok b := by
  simp [readBits_eq_ok_iff]

/-! ### The thirteen bits of an RC5 frame -/

/-- What DEC.RC5 writes for the four fields of a frame. -/
def rc5CodeOf (fieldBit : Bool) (tg dev low : List Bool) : Rc5Code where
  device := b2u dev
  function := rc5Function fieldBit low
  toggle := b2u tg

/-- A frame is its start-bit mark and thirteen bits (R165, R167). -/
theorem rc5Parse_of_readBits {T : List Int} {fieldBit : Bool} {tg dev low : List Bool} (hmark : tick T 0 = 1)
    (htg : tg.length = 1) (hdev : dev.length = 5)
    (h : readBits (rc5Read T) 1 13 = .ok ([fieldBit] ++ (tg ++ (dev ++ low)))) :
    rc5Parse T = .ok (rc5CodeOf fieldBit tg dev low) := by
  obtain ⟨b, rfl⟩ := List.length_eq_one_iff.mp htg
  obtain ⟨hfield, h⟩ := (readBits_append_iff (m := 1) (n := 12) rfl).mp h
  obtain ⟨htoggle, h⟩ := (readBits_append_iff (m := 1) (n := 11) rfl).mp h
  obtain ⟨hdevice, hlow⟩ := (readBits_append_iff (m := 5) (n := 6) hdev).mp h
  rw [readBits_one] at hfield htoggle
  simp only [rc5Parse, hmark, hfield, htoggle, hdevice, hlow, rc5CodeOf]
  cases b <;> rfl

/-- What DEC.RC5 accepts is a start-bit mark and thirteen bits, and nothing else. -/
theorem exists_readBits_of_rc5Parse_eq_ok {T : List Int} {c : Rc5Code} (h : rc5Parse T = .ok c) :
    tick T 0 = 1 ∧ ∃ fieldBit tg dev low, tg.length = 1 ∧ dev.length = 5 ∧ low.length = 6
      ∧ readBits (rc5Read T) 1 13 = .ok ([fieldBit] ++ (tg ++ (dev ++ low))) ∧ c = rc5CodeOf fieldBit tg dev low := by
  unfold rc5Parse at h
  repeat' split at h
  all_goals cases h
  next hmark _ fieldBit hfield _ tg htoggle _ dev hdevice _ low hlow =>
    have hdev := readBits_length hdevice
    refine ⟨not_not.mp hmark, fieldBit, [tg], dev, low, rfl, hdev, readBits_length hlow, ?_, ?_⟩
    · exact (readBits_append_iff (m := 1) (n := 12) rfl).mpr ⟨readBits_one.mpr hfield,
        (readBits_append_iff (m := 1) (n := 11) rfl).mpr ⟨readBits_one.mpr htoggle,
          (readBits_append_iff (m := 5) (n := 6) hdev).mpr ⟨hdevice, hlow⟩⟩⟩
    · cases tg <;> rfl

/-- A bit is read from two opposite ticks alone (R168). -/
theorem tickAt_ne_of_rc5Read_eq_ok {T : List Int} {i : Nat} {b : Bool} (h : rc5Read T i = .ok b) :
    tickAt T i ≠ tickAt T (i + 1) := by
  simp only [← tick_eq_tickAt]
  rcases rc5Read_cases T i with ⟨h0, h1, -⟩ | ⟨h0, h1, -⟩ | ⟨-, -, herr⟩
  · rw [h0, h1]; decide
  · rw [h0, h1]; decide
  · rw [herr] at h; cases h

/-- Every tick is a mark or a space of one unit, those past the end included. -/
def UnitTicks (T : List Int) : Prop := ∀ i, tickAt T i = 1 ∨ tickAt T i = -1

/-- Two opposite unit ticks are a bit: 1 when the space comes first (R168). -/
theorem rc5Read_of_ne {T : List Int} {i : Nat} (hT : UnitTicks T) (h : tickAt T i ≠ tickAt T (i + 1)) :
    rc5Read T i = .ok (decide (tickAt T i = -1)) := by
  simp only [rc5Read, tick_eq_tickAt]
  rcases hT i with h0 | h0 <;> rcases hT (i + 1) with h1 | h1 <;> simp [h0, h1] at h ⊢

/-- Whatever DEC.RC5 accepts has the RC5 shape. -/
theorem rc5Shape_of_rc5Parse_eq_ok {T : List Int} {c : Rc5Code} (h : rc5Parse T = .ok c) : Rc5Shape T := by
  obtain ⟨hmark, fieldBit, tg, dev, low, -, -, -, hbits, -⟩ := exists_readBits_of_rc5Parse_eq_ok h
  refine ⟨hmark, fun j hj => ?_⟩
  have hmem : rc5Read T (1 + 2 * j) ∈ ([fieldBit] ++ (tg ++ (dev ++ low))).map Except.ok :=
    readBits_eq_ok_iff.mp hbits ▸ List.mem_map_of_mem (List.mem_range.mpr hj)
  obtain ⟨b, -, hb⟩ := List.mem_map.mp hmem
  simpa only [Nat.add_right_comm] using tickAt_ne_of_rc5Read_eq_ok hb.symm

/-- Bits `first` to `first + n - 1` after the start bit, read off the first tick of each pair. -/
def rc5FieldBits (T : List Int) (first n : Nat) : List Bool :=
  (List.range n).map fun j => decide (tickAt T (1 + 2 * (first + j)) = -1)

theorem b2u_rc5FieldBits (T : List Int) (first n : Nat) : b2u (rc5FieldBits T first n) = rc5Field T first n :=
  b2u_eq_bitsValue _

/-- The function of the claims is the one DEC.RC5 writes (R162). -/
theorem rc5Function_rc5FieldBits (T : List Int) :
    rc5Function (decide (tickAt T 1 = -1)) (rc5FieldBits T 7 6) = rc5FunctionOf T := by
  rw [rc5Function, b2u_rc5FieldBits, rc5FunctionOf]
  by_cases h : tickAt T 1 = -1 <;> simp [rc5Field, bitsValue, h]

/-- From unit ticks of the RC5 shape DEC.RC5 reads the fields of the claims. -/
theorem rc5Parse_of_rc5Shape {T : List Int} (hT : UnitTicks T) (h : Rc5Shape T) :
    rc5Parse T = .ok { device := rc5Field T 2 5, function := rc5FunctionOf T, toggle := rc5Field T 1 1 } := by
  obtain ⟨hmark, hpairs⟩ := h
  have hbits : readBits (rc5Read T) 1 13 = .ok (rc5FieldBits T 0 13) := by
    rw [readBits_eq_ok_iff, rc5FieldBits, List.map_map]
    refine List.map_congr_left fun j hj => ?_
    have hread := rc5Read_of_ne hT (i := 1 + 2 * j)
      (by simpa only [Nat.add_right_comm] using hpairs j (List.mem_range.mp hj))
    rw [hread, Function.comp_apply, zero_add]
  have hsplit : rc5FieldBits T 0 13
      = [decide (tickAt T 1 = -1)] ++ (rc5FieldBits T 1 1 ++ (rc5FieldBits T 2 5 ++ rc5FieldBits T 7 6)) := rfl
  rw [rc5Parse_of_readBits hmark (by simp [rc5FieldBits]) (by simp [rc5FieldBits]) (hsplit ▸ hbits), rc5CodeOf,
    b2u_rc5FieldBits, b2u_rc5FieldBits, rc5Function_rc5FieldBits]

theorem rc5Parse_of_not_rc5Shape {T : List Int} (h : ¬ Rc5Shape T) : rc5Parse T = .error .protocolDecode := by
  cases hparse : rc5Parse T with
  | error e => rw [rc5Parse_error hparse]
  | ok c => exact absurd (rc5Shape_of_rc5Parse_eq_ok hparse) h

/-! ### The ticks of a simplified signal -/

/-- Every tick is the sign of a Duration. -/
theorem exists_signRat_of_mem_bitifyAll {tie : RoundTie} {u : Rat} {ds : List Rat} {T : List Int}
    (h : bitifyAll tie u ds = .ok T) : ∀ k ∈ T, ∃ d ∈ ds, k = signRat d := by
  induction ds generalizing T with
  | nil => cases h; simp
  | cons d ds ih =>
    rcases bitifyAll_cons_cases tie u d ds with ⟨e, -, h'⟩ | ⟨run, e, -, -, h'⟩ | ⟨run, rest, hrun, hrest, h'⟩ <;>
      rw [h'] at h <;> cases h
    rcases bitifyOne_cases tie u d with ⟨-, hone⟩ | ⟨-, hone⟩ <;> rw [hone] at hrun <;> cases hrun
    intro k hk
    rcases List.mem_append.mp hk with hk | hk
    · exact ⟨d, List.mem_cons_self, List.eq_of_mem_replicate hk⟩
    · obtain ⟨d', hd', hk⟩ := ih hrest k hk
      exact ⟨d', List.mem_cons_of_mem d hd', hk⟩

theorem signRat_eq_one_or_of_ne_zero {x : Rat} (h : x ≠ 0) : signRat x = 1 ∨ signRat x = -1 :=
  (lt_or_gt_of_ne h).symm.imp signRat_of_pos signRat_of_neg

theorem tickAt_mem_or_eq (T : List Int) (i : Nat) : tickAt T i ∈ T ∨ tickAt T i = -1 := by
  rw [tickAt, List.getD_eq_getElem?_getD]
  cases h : T[i]? with
  | none => exact .inr rfl
  | some k => exact .inl (List.mem_of_getElem? h)

/-- SIMPLIFY leaves no zero, so the quantizer leaves marks and spaces. -/
theorem unitTicks_of_bitify_simplify {tie : RoundTie} {u : Rat} (hu : 0 < u) {ds : List Rat} {T : List Int}
    (h : bitify tie (simplify ds) u = .ok T) : UnitTicks T := by
  intro i
  rcases tickAt_mem_or_eq T i with hmem | hend
  · rw [bitify_of_unit_pos _ _ hu] at h
    obtain ⟨d, hd, hk⟩ := exists_signRat_of_mem_bitifyAll h _ hmem
    obtain ⟨hne, -, -⟩ := simplify_normalized ds
    rw [hk]
    exact signRat_eq_one_or_of_ne_zero (hne d hd)
  · exact .inr hend

/-- With a positive unit the quantizer raises TimingToleranceError alone (R165). -/
theorem exists_timing_of_bitify_eq_error {tie : RoundTie} {u : Rat} (hu : 0 < u) {ds : List Rat} {err : Err}
    (h : bitify tie ds u = .error err) : ∃ d e, err = .timing d u e := by
  rw [bitify_of_unit_pos _ _ hu] at h
  induction ds with
  | nil => cases h
  | cons d ds ih =>
    rcases bitifyAll_cons_cases tie u d ds with ⟨e, hone, h'⟩ | ⟨run, e, -, hrest, h'⟩ | ⟨run, rest, -, -, h'⟩ <;>
      rw [h'] at h <;> cases h
    · rcases bitifyOne_cases tie u d with ⟨-, h'⟩ | ⟨-, h'⟩ <;> rw [h'] at hone <;> cases hone
      exact ⟨d, _, rfl⟩
    · exact ih hrest

/-! ### DEC.RC5 (R165 to R169) -/

theorem exec_decRc5 (s : State) :
    exec .decRc5 s = .next (settle s (rc5Decode s.cfg.roundTie s.bufD) s.putRc5) := rfl

theorem rc5Decode_of_bitify {tie : RoundTie} {ds : List Rat} {T : List Int}
    (h : bitify tie (simplify ds) 889 = .ok T) : rc5Decode tie ds = rc5Parse T := by
  rw [rc5Decode, uRc5, h]

/-- Settles O42: the quantizer answers first, with its error or with unit ticks, whose shape decides the rest. -/
theorem decRc5ReadsTheFrame : Obligations.DecRc5ReadsTheFrame := by
  refine fun s => ⟨fun T hT => ⟨fun hshape => ?_, fun hshape => ?_⟩, fun err herr => ?_⟩
  · have hunit := unitTicks_of_bitify_simplify (by norm_num) hT
    rw [exec_decRc5, rc5Decode_of_bitify hT, rc5Parse_of_rc5Shape hunit hshape]
    rfl
  · rw [exec_decRc5, rc5Decode_of_bitify hT, rc5Parse_of_not_rc5Shape hshape, settle_error, raise_protocolDecode]
  · obtain ⟨d, e, rfl⟩ := exists_timing_of_bitify_eq_error (by norm_num) herr
    exact ⟨d, 889, e, rfl, by rw [exec_decRc5_of_bitify_error herr, raise_timing]⟩

/-! ### A signal is read alike before and after SIMPLIFY and TRIM.T (R166, R169) -/

/-- Quantized, the signal gives the ticks `T`, the silence past the end read as spaces (R165, R166). -/
def ReadsAs (tie : RoundTie) (u : Rat) (ds : List Rat) (T : List Int) : Prop :=
  ∃ T', bitify tie (simplify ds) u = .ok T' ∧ ∀ i, tickAt T' i = tickAt T i

theorem readsAs_simplify {tie : RoundTie} {u : Rat} {ds : List Rat} {T : List Int} (h : ReadsAs tie u ds T) :
    ReadsAs tie u (simplify ds) T := by
  rwa [ReadsAs, simplify_of_normalized (simplify_normalized ds)]

/-- SIMPLIFY's loop reaches what follows `xs` with some runs written and one in progress. -/
theorem exists_simplifyFrom_append (acc : Rat) (xs : List Rat) :
    ∃ runs a, ∀ ys, simplifyFrom acc (xs ++ ys) = runs ++ simplifyFrom a ys := by
  induction xs generalizing acc with
  | nil => exact ⟨[], acc, fun _ => rfl⟩
  | cons x xs ih =>
    by_cases hx : x = 0
    · simpa [hx] using ih acc
    by_cases hacc : acc = 0
    · subst hacc
      rcases lt_or_gt_of_ne hx with hneg | hpos
      · simpa [simplifyFrom_none_of_neg hneg] using ih 0
      · simpa [simplifyFrom_none_of_pos hpos] using ih x
    by_cases hsign : signRat x = signRat acc
    · simpa [simplifyFrom_of_signRat_eq hacc hx hsign] using ih (acc + x)
    · obtain ⟨runs, a, h⟩ := ih x
      exact ⟨acc :: runs, a, fun ys => by
        rw [List.cons_append, simplifyFrom_of_signRat_ne hacc hx hsign, h, List.cons_append]⟩

/-- Right after a mark the run in progress is a mark. -/
theorem exists_simplifyFrom_cons_of_pos (acc : Rat) {x : Rat} (hx : 0 < x) :
    ∃ runs a, 0 < a ∧ ∀ ys, simplifyFrom acc (x :: ys) = runs ++ simplifyFrom a ys := by
  rcases lt_trichotomy acc 0 with hneg | rfl | hpos
  · have hsign : signRat x ≠ signRat acc := by rw [signRat_of_pos hx, signRat_of_neg hneg]; decide
    exact ⟨[acc], x, hx, simplifyFrom_of_signRat_ne hneg.ne hx.ne' hsign⟩
  · exact ⟨[], x, hx, simplifyFrom_none_of_pos hx⟩
  · have hsign : signRat x = signRat acc := by rw [signRat_of_pos hx, signRat_of_pos hpos]
    exact ⟨[], acc + x, add_pos hpos hx, simplifyFrom_of_signRat_eq hpos.ne' hx.ne' hsign⟩

/-- Silence after a mark is one space, or nothing. -/
theorem exists_simplifyFrom_silent {a : Rat} (ha : 0 < a) {silent : List Rat} (h : ∀ x ∈ silent, x ≤ 0) :
    ∃ rest, simplifyFrom a silent = simplifyFrom a [] ++ rest ∧ ∀ x ∈ rest, x < 0 := by
  have hsum : simplifyFrom a silent = simplifyFrom a [silent.sum] := by
    have hplace : ∀ x ∈ silent, 0 ≤ placeSign 1 * x := by simpa [placeSign] using h
    simpa using simplifyFrom_run_append hplace a []
  have hnonpos : silent.sum ≤ 0 := by simpa using List.sum_le_card_nsmul silent 0 h
  rcases hnonpos.lt_or_eq with hneg | hzero
  · have hsign : signRat silent.sum ≠ signRat a := by rw [signRat_of_pos ha, signRat_of_neg hneg]; decide
    refine ⟨[silent.sum], ?_, by simpa using hneg⟩
    rw [hsum, simplifyFrom_of_signRat_ne ha.ne' hneg.ne hsign]
    simp [simplifyFrom, ha.ne', hneg.ne]
  · exact ⟨[], by rw [hsum, hzero, simplifyFrom_zero_cons, List.append_nil], by simp⟩

/-- TRIM.T cuts off silence and leaves a mark at the end (41_normalizer.md R129). -/
theorem exists_eq_trimTrailing_append (ds : List Rat) :
    ∃ silent, ds = trimTrailing ds ++ silent ∧ (∀ x ∈ silent, x ≤ 0)
      ∧ ∀ x, (trimTrailing ds).getLast? = some x → 0 < x := by
  refine ⟨(ds.reverse.takeWhile (· ≤ 0)).reverse, ?_, fun x hx => ?_, fun x hx => ?_⟩
  · rw [trimTrailing, trimLeading_eq_dropWhile, ← List.reverse_append, List.takeWhile_append_dropWhile,
      List.reverse_reverse]
  · simpa using List.mem_takeWhile_imp (List.mem_reverse.mp hx)
  · rw [trimTrailing, trimLeading_eq_dropWhile, List.getLast?_reverse] at hx
    have hhead := List.head?_dropWhile_not (fun y : Rat => decide (y ≤ 0)) ds.reverse
    rw [hx] at hhead
    simpa using hhead

/-- Simplified, a signal is its trimmed part simplified, and spaces. -/
theorem exists_simplify_eq_trimTrailing_append (ds : List Rat) :
    ∃ rest, simplify ds = simplify (trimTrailing ds) ++ rest ∧ ∀ x ∈ rest, x < 0 := by
  obtain ⟨silent, hds, hsilent, hlast⟩ := exists_eq_trimTrailing_append ds
  generalize trimTrailing ds = xs at hds hlast
  subst hds
  cases hxs : xs.getLast? with
  | none =>
    obtain rfl := List.getLast?_eq_none_iff.mp hxs
    refine ⟨[], ?_, by simp⟩
    simpa [simplify] using simplifyFrom_lead_append hsilent []
  | some x =>
    obtain ⟨init, rfl⟩ := List.getLast?_eq_some_iff.mp hxs
    obtain ⟨runs, a, hinit⟩ := exists_simplifyFrom_append 0 init
    obtain ⟨runs', b, hb, hmark⟩ := exists_simplifyFrom_cons_of_pos a (hlast x hxs)
    obtain ⟨rest, hrest, hneg⟩ := exists_simplifyFrom_silent hb hsilent
    have hthrough (ys : List Rat) : simplify (init ++ [x] ++ ys) = runs ++ (runs' ++ simplifyFrom b ys) := by
      rw [simplify, List.append_assoc, List.singleton_append, hinit, hmark]
    have htrimmed := hthrough []
    rw [List.append_nil] at htrimmed
    exact ⟨rest, by rw [hthrough, hrest, htrimmed]; simp only [List.append_assoc], hneg⟩

/-- A signal that quantizes does so part by part. -/
theorem exists_of_bitifyAll_append_eq_ok {tie : RoundTie} {u : Rat} {xs ys : List Rat} {T : List Int}
    (h : bitifyAll tie u (xs ++ ys) = .ok T) :
    ∃ Tx Ty, bitifyAll tie u xs = .ok Tx ∧ bitifyAll tie u ys = .ok Ty ∧ T = Tx ++ Ty := by
  induction xs generalizing T with
  | nil => exact ⟨[], T, rfl, h, rfl⟩
  | cons x xs ih =>
    rw [List.cons_append] at h
    rcases bitifyAll_cons_cases tie u x (xs ++ ys) with ⟨e, -, h'⟩ | ⟨run, e, -, -, h'⟩ | ⟨run, rest, hrun, hrest, h'⟩
      <;> rw [h'] at h <;> cases h
    obtain ⟨Tx, Ty, hTx, hTy, rfl⟩ := ih hrest
    exact ⟨run ++ Tx, Ty, by rw [bitifyAll_cons_of_ok hrun, hTx, Except.map], hTy, (List.append_assoc ..).symm⟩

/-- Spaces at the end are read whether they are there or not (R166). -/
theorem tickAt_append_spaces (T : List Int) {spaces : List Int} (h : ∀ k ∈ spaces, k = -1) (i : Nat) :
    tickAt (T ++ spaces) i = tickAt T i := by
  rcases lt_or_ge i T.length with hi | hi
  · exact List.getD_append _ _ _ _ hi
  · have hend : tickAt T i = -1 := List.getD_eq_default _ _ hi
    have hspace : tickAt (T ++ spaces) i = tickAt spaces (i - T.length) := List.getD_append_right _ _ _ _ hi
    rw [hend, hspace]
    exact (tickAt_mem_or_eq spaces _).elim (h _) id

/-- TRIM.T takes away nothing a decoder reads, whatever the signal. -/
theorem readsAs_trimTrailing {tie : RoundTie} {u : Rat} (hu : 0 < u) {ds : List Rat} {T : List Int}
    (h : ReadsAs tie u ds T) : ReadsAs tie u (trimTrailing ds) T := by
  obtain ⟨T', hT', hticks⟩ := h
  obtain ⟨rest, hrest, hneg⟩ := exists_simplify_eq_trimTrailing_append ds
  rw [bitify_of_unit_pos _ _ hu, hrest] at hT'
  obtain ⟨trimmed, spaces, htrimmed, hspaces, rfl⟩ := exists_of_bitifyAll_append_eq_ok hT'
  refine ⟨trimmed, by rw [bitify_of_unit_pos _ _ hu, htrimmed], fun i => ?_⟩
  rw [← hticks, tickAt_append_spaces]
  intro k hk
  obtain ⟨x, hx, rfl⟩ := exists_signRat_of_mem_bitifyAll hspaces k hk
  exact signRat_of_neg (hneg x hx)

/-! ### The ticks of an encoder's frame, unit by unit -/

/-- Ticks of any length as ticks of one unit. -/
def unitByUnit (ts : List Int) : List Int := ts.flatMap fun k => List.replicate k.natAbs k.sign

theorem unitByUnit_append (ts ts' : List Int) : unitByUnit (ts ++ ts') = unitByUnit ts ++ unitByUnit ts' :=
  List.flatMap_append

/-- Neighbouring ticks of one sign are one run. -/
theorem unitByUnit_merge {k x : Int} (h : x.sign = k.sign) (ts : List Int) :
    unitByUnit ((k + x) :: ts) = unitByUnit (k :: x :: ts) := by
  have hsign : (k + x).sign = k.sign := (Int.sign_add_eq_of_sign_eq h.symm).trans h
  have hlength : (k + x).natAbs = k.natAbs + x.natAbs := by
    refine Int.natCast_inj.mp ?_
    simp only [Nat.cast_add, ← Int.sign_mul_self_eq_natAbs, hsign, h, mul_add]
  simp only [unitByUnit, List.flatMap_cons, hsign, hlength, h, ← List.replicate_append_replicate, List.append_assoc]

/-- SIMPLIFY with a run of `k` units in progress and then the quantizer give the ticks back, unit by unit. -/
theorem bitifyAll_simplifyFrom_inUnits (tie : RoundTie) {u : Rat} (hu : 0 < u) {k : Int} (hk : k ≠ 0) (ts : List Int) :
    bitifyAll tie u (simplifyFrom ((k : Rat) * u) (inUnits u ts)) = .ok (unitByUnit (k :: ts)) := by
  have hne {j : Int} (hj : j ≠ 0) : (j : Rat) * u ≠ 0 := mul_ne_zero (Int.cast_ne_zero.mpr hj) hu.ne'
  have hone (j : Int) : bitifyOne tie u ((j : Rat) * u) = .ok (List.replicate j.natAbs j.sign) := by
    rw [← signRat_int_mul j hu]
    exact bitifyOne_of_offBy_le tie hu (by rw [offBy_int_mul j hu]; positivity)
  rw [inUnits_eq_map]
  induction ts generalizing k with
  | nil => rw [List.map_nil, simplifyFrom, if_neg (hne hk), bitifyAll_cons_of_ok (hone k)]; rfl
  | cons x ts ih =>
    rw [List.map_cons]
    by_cases hx : x = 0
    · subst hx
      rw [Int.cast_zero, zero_mul, simplifyFrom_zero_cons, ih hk]
      rfl
    by_cases hsign : x.sign = k.sign
    · have hsum : k + x ≠ 0 := by
        rw [ne_eq, ← Int.sign_eq_zero_iff_zero, Int.sign_add_eq_of_sign_eq hsign.symm, Int.sign_eq_zero_iff_zero]
        exact hx
      rw [simplifyFrom_of_signRat_eq (hne hk) (hne hx) (by rwa [signRat_int_mul _ hu, signRat_int_mul _ hu]),
        ← add_mul, ← Int.cast_add, ih hsum, unitByUnit_merge hsign]
    · rw [simplifyFrom_of_signRat_ne (hne hk) (hne hx) (by rwa [signRat_int_mul _ hu, signRat_int_mul _ hu]),
        bitifyAll_cons_of_ok (hone k), ih hx]
      rfl

/-- A frame that begins with a mark is read as its ticks. -/
theorem readsAs_inUnits (tie : RoundTie) {u : Rat} (hu : 0 < u) {k : Int} (hk : 0 < k) (ts : List Int) :
    ReadsAs tie u (inUnits u (k :: ts)) (unitByUnit (k :: ts)) := by
  refine ⟨_, ?_, fun _ => rfl⟩
  rw [bitify_of_unit_pos _ _ hu, simplify, ← bitifyAll_simplifyFrom_inUnits tie hu hk.ne', inUnits_eq_map,
    inUnits_eq_map, List.map_cons, simplifyFrom_none_of_pos (mul_pos (Int.cast_pos.mpr hk) hu)]

/-- A leading space is not read (R167). -/
theorem readsAs_cons_of_neg {tie : RoundTie} {u d : Rat} {ds : List Rat} {T : List Int} (hd : d < 0)
    (h : ReadsAs tie u ds T) : ReadsAs tie u (d :: ds) T := by
  rwa [ReadsAs, simplify, simplifyFrom_none_of_neg hd]

/-! ### The bits of an RC5 frame are read back -/

theorem tick_length_add (pre T : List Int) (i : Nat) : tick (pre ++ T) (pre.length + i) = tick T i := by
  rw [tick, List.getD_append_right _ _ _ _ (Nat.le_add_right _ _), Nat.add_sub_cancel_left]
  rfl

theorem rc5Read_rc5Bit (pre post : List Int) (b : Bool) :
    rc5Read (pre ++ (rc5Bit b ++ post)) pre.length = .ok b := by
  have hfirst := tick_length_add pre (rc5Bit b ++ post) 0
  have hsecond := tick_length_add pre (rc5Bit b ++ post) 1
  rw [add_zero] at hfirst
  rw [rc5Read, hfirst, hsecond]
  cases b <;> rfl

/-- The bits a frame is made of are the bits read from it, wherever they stand. -/
theorem readBits_rc5Bit (pre post : List Int) (bits : List Bool) :
    readBits (rc5Read (pre ++ (bits.flatMap rc5Bit ++ post))) pre.length bits.length = .ok bits := by
  induction bits generalizing pre with
  | nil => rfl
  | cons b bits ih =>
    have hrest := ih (pre ++ rc5Bit b)
    have hlen : (pre ++ rc5Bit b).length = pre.length + 2 := by cases b <;> simp [rc5Bit]
    rw [hlen, List.append_assoc] at hrest
    rw [List.flatMap_cons, List.append_assoc, List.length_cons, readBits, rc5Read_rc5Bit, hrest]

theorem unitByUnit_rc5Bits (bits : List Bool) : unitByUnit (bits.flatMap rc5Bit) = bits.flatMap rc5Bit := by
  induction bits with
  | nil => rfl
  | cons b bits ih =>
    rw [List.flatMap_cons, unitByUnit_append, ih]
    cases b <;> rfl

/-- DEC.RC5 looks at the ticks it reads and at nothing else. -/
theorem rc5Parse_congr {T T' : List Int} (h : ∀ i, tickAt T i = tickAt T' i) : rc5Parse T = rc5Parse T' := by
  have htick : tick T = tick T' := funext h
  have hread : rc5Read T = rc5Read T' := by unfold rc5Read; rw [htick]
  rw [rc5Parse, rc5Parse, hread, htick]

theorem rc5Decode_of_readsAs {tie : RoundTie} {ds : List Rat} {T : List Int} (h : ReadsAs tie 889 ds T) :
    rc5Decode tie ds = rc5Parse T := by
  obtain ⟨T', hT', hticks⟩ := h
  rw [rc5Decode_of_bitify hT', rc5Parse_congr hticks]

/-- The ticks DEC.RC5 reads from a frame: the start bit's space is gone, the silence is a hundred units (R167). -/
def rc5Capture (dev fn tg : Int) : List Int :=
  [1] ++ ((rc5Bits dev fn tg).flatMap rc5Bit ++ List.replicate 100 (-1))

theorem readsAs_rc5Ticks (tie : RoundTie) (dev fn tg : Int) :
    ReadsAs tie 889 (inUnits 889 (rc5Ticks dev fn tg)) (rc5Capture dev fn tg) := by
  have hframe := readsAs_inUnits tie (u := 889) (by norm_num) one_pos ((rc5Bits dev fn tg).flatMap rc5Bit ++ [-100])
  rw [← List.singleton_append, unitByUnit_append, unitByUnit_append, unitByUnit_rc5Bits, inUnits_eq_map] at hframe
  rw [rc5Ticks_eq, inUnits_eq_map]
  exact readsAs_cons_of_neg (by norm_num) hframe

/-- Every frame is decoded to the bits it was made of. -/
theorem rc5Parse_rc5Capture (dev fn tg : Int) :
    rc5Parse (rc5Capture dev fn tg)
      = .ok (rc5CodeOf (decide (fn < 64)) (msbBits 1 tg) (msbBits 5 dev) (msbBits 6 fn)) := by
  have hbits := readBits_rc5Bit [1] (List.replicate 100 (-1)) (rc5Bits dev fn tg)
  rw [rc5Bits_length] at hbits
  exact rc5Parse_of_readBits rfl (msbBits_length 1 tg) (msbBits_length 5 dev) hbits

/-! ### The round trip (R170) -/

/-- The operands of R170, read from the state. -/
structure Rc5Nominal (s : State) : Prop where
  device : 0 ≤ s.pDevice.toInt ∧ s.pDevice.toInt ≤ 31
  function : 0 ≤ s.pFunction.toInt ∧ s.pFunction.toInt ≤ 127
  toggle : 0 ≤ s.pToggle.toInt ∧ s.pToggle.toInt ≤ 1

theorem rc5Accepts_of_nominal {s : State} (h : Rc5Nominal s) : Rc5Accepts s.pDevice.toInt s.pToggle.toInt := by
  obtain ⟨hdev, -, htg⟩ := h
  unfold Rc5Accepts fieldRange
  omega

/-- A register that is not negative is written back as it was. -/
theorem ofNat_toNat_toInt {v : Word} (h : 0 ≤ v.toInt) : BitVec.ofNat 32 v.toInt.toNat = v := by
  rw [← BitVec.ofInt_natCast, Int.toNat_of_nonneg h, BitVec.ofInt_toInt]

/-- A function of seven bits is its field bit and its six low bits (R162). -/
theorem rc5Function_msbBits {fn : Int} (hlow : 0 ≤ fn) (hhigh : fn ≤ 127) :
    rc5Function (decide (fn < 64)) (msbBits 6 fn) = fn.toNat := by
  rw [rc5Function, b2u_msbBits]
  by_cases h : fn < 64 <;> simp only [h, decide_true, decide_false, if_true, Bool.false_eq_true, if_false] <;> omega

/-- For the operands of R170 the bits of the frame are the three registers. -/
theorem rc5CodeOf_of_nominal {s : State} (h : Rc5Nominal s) :
    rc5CodeOf (decide (s.pFunction.toInt < 64)) (msbBits 1 s.pToggle.toInt) (msbBits 5 s.pDevice.toInt)
        (msbBits 6 s.pFunction.toInt)
      = { device := s.pDevice.toInt.toNat, function := s.pFunction.toInt.toNat, toggle := s.pToggle.toInt.toNat } := by
  obtain ⟨hdev, ⟨hlow, hhigh⟩, htg⟩ := h
  have htoggle : s.pToggle.toInt % 2 ^ 1 = s.pToggle.toInt := by omega
  have hdevice : s.pDevice.toInt % 2 ^ 5 = s.pDevice.toInt := by omega
  rw [rc5CodeOf, rc5Function_msbBits hlow hhigh, b2u_msbBits, b2u_msbBits, htoggle, hdevice]

/-- Whatever is read as the frame of a state is decoded to the registers of that state. -/
theorem exec_decRc5_putD_of_readsAs {s : State} (hs : Rc5Nominal s) {ds : List Rat}
    (h : ReadsAs s.cfg.roundTie 889 ds (rc5Capture s.pDevice.toInt s.pFunction.toInt s.pToggle.toInt)) :
    exec .decRc5 (s.putD ds) = .next (s.putD ds) := by
  have hdecode : rc5Decode s.cfg.roundTie ds = _ :=
    (rc5Decode_of_readsAs h).trans ((rc5Parse_rc5Capture _ _ _).trans (congrArg _ (rc5CodeOf_of_nominal hs)))
  obtain ⟨⟨hdev, -⟩, ⟨hfn, -⟩, ⟨htg, -⟩⟩ := hs
  rw [exec_decRc5, putD_cfg, putD_bufD, hdecode, settle_ok, State.putRc5, ofNat_toNat_toInt hdev, ofNat_toNat_toInt hfn,
    ofNat_toNat_toInt htg]
  rfl

/-- Settles O43: the frame is read as its ticks, SIMPLIFY and TRIM.T keep what is read, and the ticks give the bits. -/
theorem rc5RoundTrip : Obligations.Rc5RoundTrip := by
  intro s hdev0 hdev1 hfn0 hfn1 htg0 htg1 hroom
  have hs : Rc5Nominal s := ⟨⟨hdev0, hdev1⟩, ⟨hfn0, hfn1⟩, ⟨htg0, htg1⟩⟩
  obtain ⟨hwrites, -, -⟩ := encRc5WritesItsFrame s
  have hencode := hwrites (rc5Accepts_of_nominal hs) hroom
  have hframe := readsAs_rc5Ticks s.cfg.roundTie s.pDevice.toInt s.pFunction.toInt s.pToggle.toInt
  generalize inUnits 889 (rc5Ticks s.pDevice.toInt s.pFunction.toInt s.pToggle.toInt) = ds at hencode hframe
  have htrimmed := readsAs_trimTrailing (by norm_num) hframe
  refine ⟨s.putD ds, s.putD (simplify ds), s.putD (trimTrailing ds), s.putD (trimTrailing (simplify ds)),
    s.putD (simplify (trimTrailing ds)), hencode, rfl, rfl, rfl, rfl, fun x hx => ?_⟩
  simp only [List.mem_cons, List.not_mem_nil, or_false] at hx
  rcases hx with rfl | rfl | rfl | rfl | rfl
  · exact ⟨exec_decRc5_putD_of_readsAs hs hframe, rfl, rfl, rfl⟩
  · exact ⟨exec_decRc5_putD_of_readsAs hs (readsAs_simplify hframe), rfl, rfl, rfl⟩
  · exact ⟨exec_decRc5_putD_of_readsAs hs htrimmed, rfl, rfl, rfl⟩
  · exact ⟨exec_decRc5_putD_of_readsAs hs (readsAs_trimTrailing (by norm_num) (readsAs_simplify hframe)), rfl, rfl, rfl⟩
  · exact ⟨exec_decRc5_putD_of_readsAs hs (readsAs_simplify htrimmed), rfl, rfl, rfl⟩

/-! ### The ranges of decoded values (R171; 44_rc6.md R191) -/

/-- An operation that does not end in FAULT has made its writes. -/
theorem exists_write_of_settle {β : Type} {s t : State} {r : Except Err β} {write : β → State}
    (h : settle s r write = t) (ht : t.fault = false) : ∃ v, r = .ok v ∧ t = write v := by
  rcases settle_cases s r write with ⟨v, hr, hv⟩ | ⟨e, -, he⟩
  · exact ⟨v, hr, h.symm.trans hv⟩
  · rw [← h, he, raise_fault] at ht
    cases ht

theorem toNat_ofNat_lt {n k : Nat} (h : n < k) : (BitVec.ofNat 32 n).toNat < k := by
  rw [BitVec.toNat_ofNat]
  exact (Nat.mod_le _ _).trans_lt h

theorem b2u_lt_of_length {bits : List Bool} {w : Nat} (h : bits.length = w) : b2u bits < 2 ^ w := h ▸ b2u_lt bits

theorem rc5Function_lt (fieldBit : Bool) {low : List Bool} (h : low.length = 6) : rc5Function fieldBit low < 128 := by
  have hlow := b2u_lt_of_length h
  unfold rc5Function
  split <;> omega

theorem rc5Parse_ranges {T : List Int} {c : Rc5Code} (h : rc5Parse T = .ok c) :
    c.device < 32 ∧ c.function < 128 ∧ c.toggle < 2 := by
  obtain ⟨-, fieldBit, tg, dev, low, htg, hdev, hlow, -, rfl⟩ := exists_readBits_of_rc5Parse_eq_ok h
  exact ⟨b2u_lt_of_length hdev, rc5Function_lt fieldBit hlow, b2u_lt_of_length htg⟩

theorem rc6Parse_ranges {T : List Int} {c : Rc6Code} (h : rc6Parse T = .ok c) :
    c.device < 256 ∧ c.function < 256 ∧ c.toggle < 2 ∧ c.mode < 8 := by
  unfold rc6Parse at h
  repeat' split at h
  all_goals cases h
  next mode hmode _ tg _ _ dev hdev _ fn hfn =>
    exact ⟨b2u_lt_of_length (readBits_length hdev), b2u_lt_of_length (readBits_length hfn), tg.toNat_lt,
      b2u_lt_of_length (readBits_length hmode)⟩

theorem exists_rc5Parse_of_rc5Decode_eq_ok {tie : RoundTie} {ds : List Rat} {c : Rc5Code}
    (h : rc5Decode tie ds = .ok c) : ∃ T, rc5Parse T = .ok c := by
  unfold rc5Decode at h
  split at h
  · cases h
  · exact ⟨_, h⟩

theorem exists_rc6Parse_of_rc6Decode_eq_ok {tie : RoundTie} {ds : List Rat} {c : Rc6Code}
    (h : rc6Decode tie ds = .ok c) : ∃ T, rc6Parse T = .ok c := by
  unfold rc6Decode at h
  split at h
  · cases h
  · exact ⟨_, h⟩

/-- Settles O47: a decoder that raises nothing writes the values of bit strings of fixed lengths. -/
theorem decodersWriteValuesInRange : Obligations.DecodersWriteValuesInRange := by
  refine fun s t _ ht => ⟨fun h => ?_, fun h => ?_⟩
  · obtain ⟨c, hc, rfl⟩ := exists_write_of_settle (Host.Outcome.next.inj h) ht
    obtain ⟨T, hT⟩ := exists_rc5Parse_of_rc5Decode_eq_ok hc
    obtain ⟨hdev, hfn, htg⟩ := rc5Parse_ranges hT
    exact ⟨toNat_ofNat_lt hdev, toNat_ofNat_lt hfn, toNat_ofNat_lt htg⟩
  · obtain ⟨c, hc, rfl⟩ := exists_write_of_settle (Host.Outcome.next.inj h) ht
    obtain ⟨T, hT⟩ := exists_rc6Parse_of_rc6Decode_eq_ok hc
    obtain ⟨hdev, hfn, htg, hmode⟩ := rc6Parse_ranges hT
    exact ⟨toNat_ofNat_lt hdev, toNat_ofNat_lt hfn, toNat_ofNat_lt htg, toNat_ofNat_lt hmode⟩

end Sys2Proof.Proofs
end

section
/-! PROOFS. The statements of 44_rc6.md: what DEC.RC6 reads from a signal (R185 to R189) and the round trip (R190). -/

namespace Sys2Proof.Proofs

open Sys2Proof.Machine Sys2Proof.Claims

/-! ### One bit of RC6 (R187): the pair of ticks of RC5, the other way round -/

theorem rc6Bit_eq_rc5Bit_not (b : Bool) : rc6Bit b = rc5Bit (!b) := by cases b <;> rfl

theorem flatMap_rc6Bit (bits : List Bool) : bits.flatMap rc6Bit = (bits.map not).flatMap rc5Bit := by
  rw [List.flatMap_map]
  exact List.flatMap_congr fun b _ => rc6Bit_eq_rc5Bit_not b

theorem rc6Read_eq_ok_iff {T : List Int} {i : Nat} {b : Bool} : rc6Read T i = .ok b ↔ rc5Read T i = .ok (!b) := by
  rcases rc6Read_cases T i with ⟨h0, h1, h⟩ | ⟨h0, h1, h⟩ | ⟨hone, hzero, h⟩
  · cases b <;> simp [h, rc5Read, h0, h1]
  · cases b <;> simp [h, rc5Read, h0, h1]
  · simp [h, rc5Read, hone, hzero]

/-- Bits of RC6 in a row are bits of RC5, complemented. -/
theorem readBits_rc6Read_iff {T : List Int} {i n : Nat} {bs : List Bool} :
    readBits (rc6Read T) i n = .ok bs ↔ readBits (rc5Read T) i n = .ok (bs.map not) := by
  simp [readBits_eq_ok_iff, List.ext_getElem_iff, rc6Read_eq_ok_iff]

/-- A 1 is a mark, then a space (R187). -/
theorem rc6Read_eq_ok_true_iff {T : List Int} {i : Nat} :
    rc6Read T i = .ok true ↔ tickAt T i = 1 ∧ tickAt T (i + 1) = -1 := by
  simp only [← tick_eq_tickAt]
  rcases rc6Read_cases T i with ⟨h0, h1, h⟩ | ⟨h0, -, h⟩ | ⟨hone, -, h⟩
  · simp [h, h0, h1]
  · simp [h, h0]
  · simp [h, hone]

/-- The bits whose first pair begins at tick `i`, read off the first tick of each pair. -/
def rc6FieldBits (T : List Int) (i n : Nat) : List Bool :=
  (List.range n).map fun j => decide (tickAt T (i + 2 * j) = 1)

@[simp] theorem rc6FieldBits_length (T : List Int) (i n : Nat) : (rc6FieldBits T i n).length = n := by
  simp [rc6FieldBits]

theorem b2u_rc6FieldBits (T : List Int) (i n : Nat) : b2u (rc6FieldBits T i n) = rc6Field T i n := b2u_eq_bitsValue _

/-- Two opposite unit ticks are a bit: 1 when the mark comes first (R187). -/
theorem rc6Read_of_ne {T : List Int} {i : Nat} (hT : UnitTicks T) (h : tickAt T i ≠ tickAt T (i + 1)) :
    rc6Read T i = .ok (decide (tickAt T i = 1)) := by
  rw [rc6Read_eq_ok_iff, rc5Read_of_ne hT h]
  rcases hT i with h0 | h0 <;> simp [h0]

/-- Pairs of opposite unit ticks are read as bits. -/
theorem readBits_rc6Read_of_ne {T : List Int} {i n : Nat} (hT : UnitTicks T)
    (h : ∀ j < n, tickAt T (i + 2 * j) ≠ tickAt T (i + 1 + 2 * j)) :
    readBits (rc6Read T) i n = .ok (rc6FieldBits T i n) := by
  rw [readBits_eq_ok_iff, rc6FieldBits, List.map_map]
  refine List.map_congr_left fun j hj => rc6Read_of_ne hT ?_
  simpa only [Nat.add_right_comm] using h j (List.mem_range.mp hj)

/-- Bits are read from pairs of opposite ticks alone (R187). -/
theorem tickAt_ne_of_readBits_rc6Read {T : List Int} {i n : Nat} {bs : List Bool}
    (h : readBits (rc6Read T) i n = .ok bs) : ∀ j < n, tickAt T (i + 2 * j) ≠ tickAt T (i + 1 + 2 * j) := by
  intro j hj
  have hmem : rc6Read T (i + 2 * j) ∈ bs.map Except.ok :=
    readBits_eq_ok_iff.mp h ▸ List.mem_map_of_mem (List.mem_range.mpr hj)
  obtain ⟨b, -, hb⟩ := List.mem_map.mp hmem
  simpa only [Nat.add_right_comm] using tickAt_ne_of_rc5Read_eq_ok (rc6Read_eq_ok_iff.mp hb.symm)

/-! ### The leader and the toggle (R186, R188) -/

theorem rc6LeaderOk_iff (T : List Int) :
    rc6LeaderOk T = true ↔ (∀ k < 6, tickAt T k = 1) ∧ ∀ k < 2, tickAt T (6 + k) = -1 := by
  have hspaces : List.range' 6 2 = (List.range 2).map (6 + ·) := rfl
  simp [rc6LeaderOk, hspaces, ← tick_eq_tickAt]

/-- The four ticks of a toggle. -/
def rc6TogTicks (b : Bool) : List Int := if b then [1, 1, -1, -1] else [-1, -1, 1, 1]

theorem rc6ReadToggle_eq_ok_iff {T : List Int} {i : Nat} {b : Bool} :
    rc6ReadToggle T i = .ok b
      ↔ [tickAt T i, tickAt T (i + 1), tickAt T (i + 2), tickAt T (i + 3)] = rc6TogTicks b := by
  simp only [rc6ReadToggle, ← tick_eq_tickAt]
  generalize [tick T i, tick T (i + 1), tick T (i + 2), tick T (i + 3)] = q
  split_ifs with hone hzero
  · subst hone; cases b <;> simp [rc6TogTicks]
  · subst hzero; cases b <;> simp [rc6TogTicks]
  · cases b <;> simp [rc6TogTicks, hone, hzero]

/-- Two equal ticks and two of the other sign, all of one unit, are a toggle: 1 when the mark comes first. -/
theorem rc6ReadToggle_of_unitTicks {T : List Int} {i : Nat} (hT : UnitTicks T)
    (hfirst : tickAt T i = tickAt T (i + 1)) (hsecond : tickAt T (i + 2) = tickAt T (i + 3))
    (hne : tickAt T i ≠ tickAt T (i + 2)) : rc6ReadToggle T i = .ok (decide (tickAt T i = 1)) := by
  rw [rc6ReadToggle_eq_ok_iff, ← hfirst, ← hsecond]
  rcases hT i with h0 | h0 <;> rcases hT (i + 2) with h2 | h2 <;> simp [h0, h2, rc6TogTicks] at hne ⊢

theorem tickAt_of_rc6ReadToggle_eq_ok {T : List Int} {i : Nat} {b : Bool} (h : rc6ReadToggle T i = .ok b) :
    tickAt T i = tickAt T (i + 1) ∧ tickAt T (i + 2) = tickAt T (i + 3) ∧ tickAt T i ≠ tickAt T (i + 2) := by
  rw [rc6ReadToggle_eq_ok_iff] at h
  cases b <;> simp [rc6TogTicks] at h <;> simp [h]

/-! ### The fields of an RC6 frame -/

/-- What DEC.RC6 writes for the four fields of a frame. -/
def rc6CodeOf (mode : List Bool) (tg : Bool) (dev fn : List Bool) : Rc6Code where
  device := b2u dev
  function := b2u fn
  toggle := tg.toNat
  mode := b2u mode

/-- A frame is its leader, the start bit 1, three bits, the toggle and sixteen bits, and nothing else is accepted
(R185 to R188). -/
theorem rc6Parse_eq_ok_iff {T : List Int} {c : Rc6Code} :
    rc6Parse T = .ok c ↔ rc6LeaderOk T = true ∧ rc6Read T 8 = .ok true ∧ ∃ mode tg dev fn,
      dev.length = 8 ∧ readBits (rc6Read T) 10 3 = .ok mode ∧ rc6ReadToggle T 16 = .ok tg
        ∧ readBits (rc6Read T) 20 16 = .ok (dev ++ fn) ∧ c = rc6CodeOf mode tg dev fn := by
  constructor
  · intro h
    unfold rc6Parse at h
    repeat' split at h
    all_goals cases h
    next hleader _ start hstart hone _ mode hmode _ tg htg _ dev hdev _ fn hfn =>
      obtain rfl : start = true := not_not.mp hone
      have hlen := readBits_length hdev
      exact ⟨not_not.mp hleader, hstart, mode, tg, dev, fn, hlen, hmode, htg,
        (readBits_append_iff (m := 8) (n := 8) hlen).mpr ⟨hdev, hfn⟩, rfl⟩
  · rintro ⟨hleader, hstart, mode, tg, dev, fn, hlen, hmode, htg, hdata, rfl⟩
    obtain ⟨hdev, hfn⟩ := (readBits_append_iff (m := 8) (n := 8) hlen).mp hdata
    simp [rc6Parse, hleader, hstart, hmode, htg, hdev, hfn, rc6CodeOf]

/-- Whatever DEC.RC6 accepts has the RC6 shape. -/
theorem rc6Shape_of_rc6Parse_eq_ok {T : List Int} {c : Rc6Code} (h : rc6Parse T = .ok c) : Rc6Shape T := by
  obtain ⟨hleader, hstart, mode, tg, dev, fn, -, hmode, htg, hdata, -⟩ := rc6Parse_eq_ok_iff.mp h
  obtain ⟨hmarks, hspaces⟩ := (rc6LeaderOk_iff T).mp hleader
  obtain ⟨hmark, hspace⟩ := rc6Read_eq_ok_true_iff.mp hstart
  exact ⟨hmarks, hspaces, hmark, hspace, tickAt_ne_of_readBits_rc6Read hmode, tickAt_of_rc6ReadToggle_eq_ok htg,
    tickAt_ne_of_readBits_rc6Read hdata⟩

/-- From unit ticks of the RC6 shape DEC.RC6 reads the fields of the claims. -/
theorem rc6Parse_of_rc6Shape {T : List Int} (hT : UnitTicks T) (h : Rc6Shape T) :
    rc6Parse T = .ok
      { device := rc6Field T 20 8, function := rc6Field T 36 8, toggle := if tickAt T 16 = 1 then 1 else 0,
        mode := rc6Field T 10 3 } := by
  obtain ⟨hmarks, hspaces, hmark, hspace, hmode, ⟨hfirst, hsecond, hne⟩, hdata⟩ := h
  have hsplit : rc6FieldBits T 20 16 = rc6FieldBits T 20 8 ++ rc6FieldBits T 36 8 := rfl
  refine rc6Parse_eq_ok_iff.mpr ⟨(rc6LeaderOk_iff T).mpr ⟨hmarks, hspaces⟩, rc6Read_eq_ok_true_iff.mpr ⟨hmark, hspace⟩,
    rc6FieldBits T 10 3, decide (tickAt T 16 = 1), rc6FieldBits T 20 8, rc6FieldBits T 36 8, rc6FieldBits_length T 20 8,
    readBits_rc6Read_of_ne hT hmode, rc6ReadToggle_of_unitTicks hT hfirst hsecond hne,
    hsplit ▸ readBits_rc6Read_of_ne hT hdata, ?_⟩
  rw [rc6CodeOf, b2u_rc6FieldBits, b2u_rc6FieldBits, b2u_rc6FieldBits, Bool.toNat, Bool.cond_decide]

theorem rc6Parse_of_not_rc6Shape {T : List Int} (h : ¬ Rc6Shape T) : rc6Parse T = .error .protocolDecode := by
  cases hparse : rc6Parse T with
  | error e => rw [rc6Parse_error hparse]
  | ok c => exact absurd (rc6Shape_of_rc6Parse_eq_ok hparse) h

/-! ### DEC.RC6 (R185 to R189) -/

theorem exec_decRc6 (s : State) :
    exec .decRc6 s = .next (settle s (rc6Decode s.cfg.roundTie s.bufD) s.putRc6) := rfl

theorem rc6Decode_of_bitify {tie : RoundTie} {ds : List Rat} {T : List Int}
    (h : bitify tie (simplify ds) 444 = .ok T) : rc6Decode tie ds = rc6Parse T := by
  rw [rc6Decode, uRc6, h]

/-- Settles O45: the quantizer answers first, with its error or with unit ticks, whose shape decides the rest. -/
theorem decRc6ReadsTheFrame : Obligations.DecRc6ReadsTheFrame := by
  refine fun s => ⟨fun T hT => ⟨fun hshape => ?_, fun hshape => ?_⟩, fun err herr => ?_⟩
  · have hunit := unitTicks_of_bitify_simplify (by norm_num) hT
    rw [exec_decRc6, rc6Decode_of_bitify hT, rc6Parse_of_rc6Shape hunit hshape]
    rfl
  · rw [exec_decRc6, rc6Decode_of_bitify hT, rc6Parse_of_not_rc6Shape hshape, settle_error, raise_protocolDecode]
  · obtain ⟨d, e, rfl⟩ := exists_timing_of_bitify_eq_error (by norm_num) herr
    exact ⟨d, 444, e, rfl, by rw [exec_decRc6_of_bitify_error herr, raise_timing]⟩

/-! ### The frame of ENC.RC6 is read back -/

/-- The bits a frame is made of are the bits read from it, wherever they stand. -/
theorem readBits_rc6Bit {T pre post : List Int} {bits : List Bool} {i n : Nat}
    (hT : T = pre ++ (bits.flatMap rc6Bit ++ post)) (hi : pre.length = i) (hn : bits.length = n) :
    readBits (rc6Read T) i n = .ok bits := by
  subst hT hi hn
  have hread := readBits_rc5Bit pre post (bits.map not)
  rw [List.length_map] at hread
  rw [readBits_rc6Read_iff, flatMap_rc6Bit, hread]

/-- So is the toggle. -/
theorem rc6ReadToggle_rc6TogTicks {T pre post : List Int} {b : Bool} {i : Nat}
    (hT : T = pre ++ (rc6TogTicks b ++ post)) (hi : pre.length = i) : rc6ReadToggle T i = .ok b := by
  subst hT hi
  have htick := tick_length_add pre (rc6TogTicks b ++ post)
  have hfirst := htick 0
  rw [add_zero] at hfirst
  simp only [rc6ReadToggle_eq_ok_iff, ← tick_eq_tickAt, htick, hfirst]
  cases b <;> rfl

/-- The leader, unit by unit (R186). -/
def rc6LeaderTicks : List Int := [1, 1, 1, 1, 1, 1, -1, -1]

/-- The ticks DEC.RC6 reads from a frame (30_encoding.md R85), unit by unit. -/
def rc6Capture (mode : List Bool) (tg : Bool) (data : List Bool) : List Int :=
  rc6LeaderTicks ++ ((true :: mode).flatMap rc6Bit
    ++ (rc6TogTicks tg ++ (data.flatMap rc6Bit ++ List.replicate 6 (-1))))

/-- Every frame is decoded to the bits it was made of. -/
theorem rc6Parse_rc6Capture {mode dev fn : List Bool} (tg : Bool) (hmode : mode.length = 3) (hdev : dev.length = 8)
    (hfn : fn.length = 8) : rc6Parse (rc6Capture mode tg (dev ++ fn)) = .ok (rc6CodeOf mode tg dev fn) := by
  have hhead : (rc6LeaderTicks ++ (true :: mode).flatMap rc6Bit).length = 16 := by
    rw [List.length_append, length_flatMap_of_length_eq (k := 2) (by decide), List.length_cons, hmode]
    rfl
  have htog : (rc6TogTicks tg).length = 4 := by cases tg <;> rfl
  have hbits : readBits (rc6Read (rc6Capture mode tg (dev ++ fn))) 8 (1 + 3) = .ok ([true] ++ mode) :=
    readBits_rc6Bit (pre := rc6LeaderTicks) rfl rfl (by rw [List.length_append, hmode]; rfl)
  have htoggle : rc6ReadToggle (rc6Capture mode tg (dev ++ fn)) 16 = .ok tg :=
    rc6ReadToggle_rc6TogTicks (List.append_assoc ..).symm hhead
  have hdata : readBits (rc6Read (rc6Capture mode tg (dev ++ fn))) 20 16 = .ok (dev ++ fn) :=
    readBits_rc6Bit (pre := rc6LeaderTicks ++ (true :: mode).flatMap rc6Bit ++ rc6TogTicks tg)
      (post := List.replicate 6 (-1)) (by simp only [rc6Capture, List.append_assoc])
      (by rw [List.length_append, hhead, htog]) (by rw [List.length_append, hdev, hfn])
  obtain ⟨hstart, hmodeBits⟩ := (readBits_append_iff (m := 1) (n := 3) rfl).mp hbits
  exact rc6Parse_eq_ok_iff.mpr ⟨rfl, readBits_one.mp hstart, mode, tg, dev, fn, hdev, hmodeBits, htoggle, hdata, rfl⟩

theorem unitByUnit_rc6Bits (bits : List Bool) : unitByUnit (bits.flatMap rc6Bit) = bits.flatMap rc6Bit := by
  rw [flatMap_rc6Bit, unitByUnit_rc5Bits]

theorem unitByUnit_rc6Tog (b : Bool) : unitByUnit (rc6Tog b) = rc6TogTicks b := by cases b <;> rfl

/-- Unit by unit, the ticks of a frame are its leader, its bits, its toggle and a silence (30_encoding.md R85). -/
theorem unitByUnit_rc6Ticks {tg : Int} {b : Bool} (dev fn mode : Int) (hb : msbBits 1 tg = [b]) :
    unitByUnit (rc6Ticks dev fn tg mode) = rc6Capture (msbBits 3 mode) b (msbBits 8 dev ++ msbBits 8 fn) := by
  have hticks : rc6Ticks dev fn tg mode = [6, -2] ++ (true :: msbBits 3 mode).flatMap rc6Bit
      ++ (msbBits 1 tg).flatMap rc6Tog ++ (msbBits 8 dev ++ msbBits 8 fn).flatMap rc6Bit ++ [-6] := rfl
  simp only [hticks, hb, List.flatMap_singleton, unitByUnit_append, unitByUnit_rc6Bits, unitByUnit_rc6Tog, rc6Capture,
    List.append_assoc]
  rfl

/-- A frame is read as its ticks. -/
theorem readsAs_rc6Ticks (tie : RoundTie) (dev fn tg mode : Int) :
    ReadsAs tie 444 (inUnits 444 (rc6Ticks dev fn tg mode)) (unitByUnit (rc6Ticks dev fn tg mode)) :=
  readsAs_inUnits tie (by norm_num) (k := 6) (by norm_num) _

/-- Every frame is decoded to the low bits of its operands (R180). -/
theorem rc6Parse_unitByUnit_rc6Ticks (dev fn tg mode : Int) :
    rc6Parse (unitByUnit (rc6Ticks dev fn tg mode)) = .ok
      { device := (dev % 2 ^ 8).toNat, function := (fn % 2 ^ 8).toNat, toggle := (tg % 2 ^ 1).toNat,
        mode := (mode % 2 ^ 3).toNat } := by
  obtain ⟨b, hb⟩ := List.length_eq_one_iff.mp (msbBits_length 1 tg)
  have htoggle : b.toNat = (tg % 2 ^ 1).toNat := by
    rw [← b2u_msbBits, hb]
    cases b <;> rfl
  rw [unitByUnit_rc6Ticks dev fn mode hb,
    rc6Parse_rc6Capture b (msbBits_length 3 mode) (msbBits_length 8 dev) (msbBits_length 8 fn), rc6CodeOf,
    b2u_msbBits, b2u_msbBits, b2u_msbBits, htoggle]

/-- DEC.RC6 looks at the ticks it reads and at nothing else. -/
theorem rc6Parse_congr {T T' : List Int} (h : ∀ i, tickAt T i = tickAt T' i) : rc6Parse T = rc6Parse T' := by
  have htick : tick T = tick T' := funext h
  have hleader : rc6LeaderOk T = rc6LeaderOk T' := by unfold rc6LeaderOk; rw [htick]
  have hread : rc6Read T = rc6Read T' := by unfold rc6Read; rw [htick]
  have htoggle : rc6ReadToggle T = rc6ReadToggle T' := by unfold rc6ReadToggle; rw [htick]
  rw [rc6Parse, rc6Parse, hleader, hread, htoggle]

theorem rc6Decode_of_readsAs {tie : RoundTie} {ds : List Rat} {T : List Int} (h : ReadsAs tie 444 ds T) :
    rc6Decode tie ds = rc6Parse T := by
  obtain ⟨T', hT', hticks⟩ := h
  rw [rc6Decode_of_bitify hT', rc6Parse_congr hticks]

/-! ### The round trip (R190) -/

/-- A signal, and what SIMPLIFY, TRIM.T and both in either order make of it. -/
def signalsBetween (ds : List Rat) : List (List Rat) :=
  [ds, simplify ds, trimTrailing ds, trimTrailing (simplify ds), simplify (trimTrailing ds)]

/-- A decoder reads the same ticks from all of them. -/
theorem readsAs_of_mem_signalsBetween {tie : RoundTie} {u : Rat} (hu : 0 < u) {ds ds' : List Rat} {T : List Int}
    (h : ReadsAs tie u ds T) (hmem : ds' ∈ signalsBetween ds) : ReadsAs tie u ds' T := by
  have htrimmed := readsAs_trimTrailing hu h
  simp only [signalsBetween, List.mem_cons, List.not_mem_nil, or_false] at hmem
  rcases hmem with rfl | rfl | rfl | rfl | rfl
  · exact h
  · exact readsAs_simplify h
  · exact htrimmed
  · exact readsAs_trimTrailing hu (readsAs_simplify h)
  · exact readsAs_simplify htrimmed

/-- The operands of R190, read from the state. -/
structure Rc6Nominal (s : State) : Prop where
  device : 0 ≤ s.pDevice.toInt ∧ s.pDevice.toInt ≤ 255
  function : 0 ≤ s.pFunction.toInt ∧ s.pFunction.toInt ≤ 255
  toggle : 0 ≤ s.pToggle.toInt ∧ s.pToggle.toInt ≤ 1
  mode : 0 ≤ s.pMode.toInt ∧ s.pMode.toInt ≤ 7

theorem rc6Accepts_of_nominal {s : State} (h : Rc6Nominal s) :
    Rc6Accepts s.pDevice.toInt s.pFunction.toInt s.pToggle.toInt s.pMode.toInt := by
  obtain ⟨hdev, hfn, htg, hmode⟩ := h
  unfold Rc6Accepts fieldRange
  omega

/-- Whatever is read as the frame of a state is decoded to the registers of that state. -/
theorem exec_decRc6_putD_of_readsAs {s : State} (hs : Rc6Nominal s) {ds : List Rat}
    (h : ReadsAs s.cfg.roundTie 444 ds
      (unitByUnit (rc6Ticks s.pDevice.toInt s.pFunction.toInt s.pToggle.toInt s.pMode.toInt))) :
    exec .decRc6 (s.putD ds) = .next (s.putD ds) := by
  have hdecode := (rc6Decode_of_readsAs h).trans (rc6Parse_unitByUnit_rc6Ticks _ _ _ _)
  obtain ⟨⟨hdev0, hdev⟩, ⟨hfn0, hfn⟩, ⟨htg0, htg⟩, ⟨hmode0, hmode⟩⟩ := hs
  rw [Int.emod_eq_of_lt hdev0 (by omega), Int.emod_eq_of_lt hfn0 (by omega), Int.emod_eq_of_lt htg0 (by omega),
    Int.emod_eq_of_lt hmode0 (by omega)] at hdecode
  rw [exec_decRc6, putD_cfg, putD_bufD, hdecode, settle_ok, State.putRc6, ofNat_toNat_toInt hdev0,
    ofNat_toNat_toInt hfn0, ofNat_toNat_toInt htg0, ofNat_toNat_toInt hmode0]
  rfl

/-- Settles O46: the frame is read as its ticks, SIMPLIFY and TRIM.T keep what is read, and the ticks give the bits. -/
theorem rc6RoundTrip : Obligations.Rc6RoundTrip := by
  intro s hdev0 hdev1 hfn0 hfn1 htg0 htg1 hmode0 hmode1 hroom
  have hs : Rc6Nominal s := ⟨⟨hdev0, hdev1⟩, ⟨hfn0, hfn1⟩, ⟨htg0, htg1⟩, ⟨hmode0, hmode1⟩⟩
  obtain ⟨hwrites, -, -⟩ := encRc6WritesItsFrame s
  have hencode := hwrites (rc6Accepts_of_nominal hs) hroom
  have hframe := readsAs_rc6Ticks s.cfg.roundTie s.pDevice.toInt s.pFunction.toInt s.pToggle.toInt s.pMode.toInt
  generalize inUnits 444 (rc6Ticks s.pDevice.toInt s.pFunction.toInt s.pToggle.toInt s.pMode.toInt) = ds
    at hencode hframe
  refine ⟨s.putD ds, s.putD (simplify ds), s.putD (trimTrailing ds), s.putD (trimTrailing (simplify ds)),
    s.putD (simplify (trimTrailing ds)), hencode, rfl, rfl, rfl, rfl, fun x hx => ?_⟩
  obtain ⟨ds', hmem, rfl⟩ : ∃ ds' ∈ signalsBetween ds, s.putD ds' = x := List.mem_map.mp hx
  exact ⟨exec_decRc6_putD_of_readsAs hs (readsAs_of_mem_signalsBetween (by norm_num) hframe hmem), rfl, rfl, rfl, rfl⟩

end Sys2Proof.Proofs
end

section
/-! PROOFS. The statements of 45_rca38.md: what every frame of ENC.RCA38 has in common (R202), and that a frame is
normalized (R203). -/

namespace Sys2Proof.Proofs

open Sys2Proof.Machine Sys2Proof.Claims

/-! ### The inverted code (R202) -/

/-- The bits of the complement of a field are the inverted bits of the field. -/
theorem msbBits_complement {w : Nat} {v : Int} (h0 : 0 ≤ v) (h1 : v ≤ 2 ^ w - 1) :
    msbBits w (2 ^ w - 1 - v) = (msbBits w v).map not := by
  lift v to Nat using h0
  have hv : v < 2 ^ w := by zify; omega
  have hcomplement : ((2 : Int) ^ w - 1 - v) = ((2 ^ w - (v + 1) : Nat) : Int) := by
    push_cast [Nat.cast_sub (Nat.succ_le_of_lt hv)]
    ring
  have hvalue {n : Nat} (hn : n < 2 ^ w) : ((n : Int) % 2 ^ w).toNat = n := by
    rw [Int.emod_eq_of_lt (by omega) (by exact_mod_cast hn), Int.toNat_natCast]
  rw [hcomplement, msbBits, msbBits, hvalue hv, hvalue (by omega), List.map_map]
  refine List.map_congr_left fun k hk => ?_
  have hk : k < w := List.mem_range.mp hk
  have hplace : w - 1 - k < w := by omega
  simp [Nat.testBit_two_pow_sub_succ hv, hplace]

theorem flatMap_rcaInv (bits : List Bool) : bits.flatMap rcaInv = (bits.map not).flatMap rcaBit := by
  rw [List.flatMap_map]
  rfl

/-- A field's inverted code is its complement's plain code; a width over 31 is refused by both. -/
theorem field_rcaInv_eq_complement {w : Nat} {v : Int} (h0 : 0 ≤ v) (h1 : v ≤ 2 ^ w - 1) :
    field v w rcaInv = field (2 ^ w - 1 - v) w rcaBit := by
  by_cases hw : w ≤ 31
  · have hrange : fieldRange v w := ⟨by omega, h1⟩
    have hcomplement : fieldRange (2 ^ w - 1 - v) w := ⟨by omega, by omega⟩
    rw [field_of_fieldRange hw hrange, field_of_fieldRange hw hcomplement, msbBits_complement h0 h1, flatMap_rcaInv]
  · have hwide : 31 < (w : Int) := by omega
    have hrefused (x : Int) : u2b x w = .error .domain := u2b_of_out_of_range (.inr (.inl hwide))
    rw [field, field, hrefused, hrefused]
    rfl

/-! ### The frame, field by field (R200) -/

/-- The twelve bits a frame sends twice. -/
def rca38Bits (dev fn : Int) : List Bool := msbBits 4 dev ++ msbBits 8 fn

@[simp] theorem rca38Bits_length (dev fn : Int) : (rca38Bits dev fn).length = 12 := by simp [rca38Bits]

theorem rca38Ticks_eq (dev fn : Int) :
    rca38Ticks dev fn
      = [8, -8] ++ ((rca38Bits dev fn).flatMap rcaBit ++ ((rca38Bits dev fn).flatMap rcaInv ++ [1, -16])) := by
  have hinv : rcaInv = fun b => if b then [1, -2] else [1, -4] := by funext b; cases b <;> rfl
  simp only [rca38Ticks, hinv, List.append_assoc]
  rfl

/-! ### Every frame has the same ticks, in some order (R202) -/

/-- Sent in both codes, a bit gives one space of 4 units and one of 2, whichever bit it is. -/
theorem rcaBit_append_rcaInv_perm (b : Bool) : (rcaBit b ++ rcaInv b).Perm [1, -4, 1, -2] := by
  cases b <;> decide

/-- So the two codes of a bit string have the same ticks as those of any other of its length. -/
theorem flatMap_rcaBit_append_rcaInv_perm (bits : List Bool) :
    (bits.flatMap rcaBit ++ bits.flatMap rcaInv).Perm (List.replicate bits.length [1, -4, 1, -2]).flatten := by
  induction bits with
  | nil => exact .refl _
  | cons b bits ih =>
    rw [List.flatMap_cons, List.flatMap_cons, List.append_assoc, List.length_cons, List.replicate_succ,
      List.flatten_cons]
    have hgather : (rcaBit b ++ (bits.flatMap rcaBit ++ (rcaInv b ++ bits.flatMap rcaInv))).Perm
        ((rcaBit b ++ rcaInv b) ++ (bits.flatMap rcaBit ++ bits.flatMap rcaInv)) := by
      rw [List.append_assoc (rcaBit b)]
      exact (List.perm_append_comm_assoc ..).append_left _
    exact hgather.trans ((rcaBit_append_rcaInv_perm b).append ih)

/-- The ticks of every frame, their order apart. -/
def rca38TickBag : List Int := [8, -8] ++ ((List.replicate 12 [1, -4, 1, -2]).flatten ++ [1, -16])

theorem rca38Ticks_perm (dev fn : Int) : (rca38Ticks dev fn).Perm rca38TickBag := by
  have hbits := flatMap_rcaBit_append_rcaInv_perm (rca38Bits dev fn)
  rw [rca38Bits_length] at hbits
  rw [rca38Ticks_eq, ← List.append_assoc (List.flatMap ..)]
  exact (hbits.append_right _).append_left _

/-! ### Counts and duration of a signal in units -/

theorem inUnits_perm {ticks ticks' : List Int} (u : Rat) (h : ticks.Perm ticks') :
    (inUnits u ticks).Perm (inUnits u ticks') := by
  rw [inUnits_eq_map, inUnits_eq_map]
  exact h.map _

theorem count_inUnits {u : Rat} (hu : u ≠ 0) (k : Int) (ticks : List Int) :
    (inUnits u ticks).count ((k : Rat) * u) = ticks.count k := by
  have hinjective : Function.Injective fun k : Int => (k : Rat) * u :=
    (mul_left_injective₀ hu).comp Int.cast_injective
  rw [inUnits_eq_map]
  exact List.count_map_of_injective ticks _ hinjective k

/-- A signal in units lasts as many units as its ticks. -/
theorem sum_abs_inUnits {u : Rat} (hu : 0 ≤ u) (ticks : List Int) :
    ((inUnits u ticks).map fun x => |x|).sum = ((ticks.map fun k => |k|).sum : Int) * u := by
  rw [inUnits_eq_map]
  induction ticks with
  | nil => simp
  | cons k ticks ih =>
    simp only [List.map_cons, List.sum_cons, abs_mul, abs_of_nonneg hu, Int.cast_add, Int.cast_abs, add_mul]
    rw [← ih]

/-- Settles O49: the code law, and every frame is a rearrangement of the same 52 ticks, 129 units in all. -/
theorem everyRca38FrameLastsTheSameTime : Obligations.EveryRca38FrameLastsTheSameTime := by
  refine ⟨fun w v => field_rcaInv_eq_complement, fun s haccepts hroom => ?_⟩
  obtain ⟨hwrites, -, -⟩ := encRca38WritesItsFrame s
  have hperm := rca38Ticks_perm s.pDevice.toInt s.pFunction.toInt
  have hfour : (-1840 : Rat) = ((-4 : Int) : Rat) * 460 := by norm_num
  have htwo : (-920 : Rat) = ((-2 : Int) : Rat) * 460 := by norm_num
  have hunits : (rca38TickBag.map fun k => |k|).sum = 129 := by decide
  refine ⟨_, hwrites haccepts hroom, ?_, ?_, ?_⟩
  · rw [hfour, count_inUnits (by norm_num), hperm.count_eq]
    rfl
  · rw [htwo, count_inUnits (by norm_num), hperm.count_eq]
    rfl
  · rw [sum_abs_inUnits (by norm_num), (hperm.map _).sum_eq, hunits]
    norm_num

/-! ### A frame is normalized (R203) -/

/-- The ticks of a bit string, when the code of a bit is a mark of one unit and its space. -/
theorem alternates_flatMap_append {u : Rat} (hu : 0 < u) {code : Bool → List Int}
    (hcode : ∀ b, ∃ space < 0, code b = [1, space]) (bits : List Bool) {ticks : List Int}
    (h : Alternates 1 (inUnits u ticks)) : Alternates 1 (inUnits u (bits.flatMap code ++ ticks)) := by
  induction bits with
  | nil => exact h
  | cons b bits ih =>
    obtain ⟨space, hspace, hb⟩ := hcode b
    rw [inUnits_eq_map] at ih ⊢
    rw [List.flatMap_cons, List.append_assoc, hb]
    exact alternates_mark_space (by simpa using hu) (mul_neg_of_neg_of_pos (Int.cast_lt_zero.mpr hspace) hu) ih

theorem rcaBit_mark_space (b : Bool) : ∃ space < 0, rcaBit b = [1, space] := by
  cases b
  · exact ⟨-2, by decide, rfl⟩
  · exact ⟨-4, by decide, rfl⟩

theorem rca38Ticks_normalized {u : Rat} (hu : 0 < u) (dev fn : Int) : Normalized (inUnits u (rca38Ticks dev fn)) := by
  rw [normalized_iff_alternates, rca38Ticks_eq]
  have htrailer : Alternates 1 (inUnits u [1, -16]) := by
    rw [inUnits_eq_map]
    exact alternates_mark_space (by simpa using hu) (by push_cast; linarith) trivial
  have hfields := alternates_flatMap_append hu rcaBit_mark_space (rca38Bits dev fn) <|
    alternates_flatMap_append hu (fun b => rcaBit_mark_space (!b)) (rca38Bits dev fn) htrailer
  rw [inUnits_eq_map] at hfields ⊢
  exact alternates_mark_space (by push_cast; linarith) (by push_cast; linarith) hfields

theorem inUnits_length (u : Rat) (ticks : List Int) : (inUnits u ticks).length = ticks.length := by
  rw [inUnits_eq_map, List.length_map]

/-- PAIRED adds nothing to a normalized signal that ends with a space (41_normalizer.md R124). -/
theorem exec_paired_eq_self_of_normalized {t : State} (h : Normalized t.bufD) (heven : t.bufD.length % 2 = 0)
    (hroom : room t.cfg.dcap t.bufD.length = true) : exec .paired t = .next t := by
  rw [exec_paired, paired_of_normalized h, closeWith, if_pos heven, commitD_of_room hroom]
  rfl

/-- Settles O50: the frame is a leader pair, 24 bit pairs and a trailer pair, each a mark and its space. -/
theorem rca38FrameIsNormalized : Obligations.Rca38FrameIsNormalized := by
  intro s haccepts hroom
  obtain ⟨hwrites, -, -⟩ := encRca38WritesItsFrame s
  obtain ⟨-, hkept⟩ := simplifyNormalizesAndIsIdempotent
  have hnormalized := rca38Ticks_normalized (u := 460) (by norm_num) s.pDevice.toInt s.pFunction.toInt
  have hlength : (inUnits 460 (rca38Ticks s.pDevice.toInt s.pFunction.toInt)).length = 52 := by
    rw [inUnits_length, rca38Ticks_length]
  exact ⟨_, hwrites haccepts hroom, hnormalized, (hkept _).mpr hnormalized,
    exec_paired_eq_self_of_normalized hnormalized (by rw [hlength]) (by rwa [hlength])⟩

end Sys2Proof.Proofs
end

section
/-! PROOFS. The statements of 46_broadlink.md: the padding of a stream BL.ENC writes (R216), the streams BL.DEC refuses
(R220 to R223), the round trip of a canonical stream (R229), and the warning BL.DEC alone sets (R226; 60_exceptions.md
R310). -/

namespace Sys2Proof.Proofs

open Sys2Proof.Machine Sys2Proof.Claims

/-! ### The padding (R216) -/

theorem blBytes_length (rep : Byte) (payload tail : List Byte) :
    (blBytes rep payload tail).length = 4 + payload.length + tail.length := by
  simp only [blBytes, List.length_append, List.length_cons, List.length_nil]

/-- Header, payload and padding come to 12 modulo 16: the padding counts 8 more bytes than the payload, the header is 4. -/
theorem blBytes_blPadding_length_mod (rep : Byte) (payload : List Byte) :
    (blBytes rep payload (blPadding payload.length)).length % 16 = 12 := by
  rw [blBytes_length, blPadding, List.length_replicate]
  omega

theorem exec_blEnc_of_accepts {s : State} (h : BlAccepts s.cfg.roundTie s.pBlrep.toInt s.bufD)
    (hroom : room s.cfg.bcap (blStreamOf s.cfg.roundTie s.pBlrep.toInt s.bufD).length = true) :
    exec .blEnc s = .next { s with bufB := blStreamOf s.cfg.roundTie s.pBlrep.toInt s.bufD } := by
  obtain ⟨haccepted, -⟩ := blEncWritesTheStream s
  obtain ⟨hwrites, -⟩ := haccepted h
  exact hwrites hroom

/-- Settles O52: what BL.ENC writes is `blStreamOf`, a stream whose tail is `blPadding`. -/
theorem blEncPadsToSixteen : Obligations.BlEncPadsToSixteen := by
  intro s t haccepts hroom h
  rw [exec_blEnc_of_accepts haccepts hroom] at h
  cases h
  obtain ⟨-, -, hlen⟩ := haccepts
  exact ⟨blBytes_blPadding_length_mod _ _, _, _, _, rfl, Nat.le_of_lt_succ (Nat.mod_lt _ (by decide)), hlen⟩

/-! ### Malformed streams (R220 to R223) -/

/-- BL.DEC raises FormatError alone. -/
theorem exec_blDec_of_error {s : State} {e : Err} (h : blDecode s.cfg.roundTie s.bufB = .error e) :
    exec .blDec s = .next (formatError s) := by
  rw [exec_blDec, h, settle_bounded_error, blDecode_error h, raise_format]

/-- Whatever the tag, a stream that fails a later test is refused: both raise FormatError. -/
theorem blDecode_of_body_error {tie : RoundTie} {bs : List Byte} (h : blDecodeBody tie bs = .error .format) :
    blDecode tie bs = .error .format := by
  rw [blDecode, h, ite_self]

theorem blDecodeBody_of_short (tie : RoundTie) {bs : List Byte} (h : bs.length < 4) :
    blDecodeBody tie bs = .error .format := by
  unfold blDecodeBody
  split
  · simp only [List.length_cons] at h
    omega
  · rfl

theorem blDecodeBody_of_payload_cut (tie : RoundTie) (tag rep : Byte) {low high : Byte} {rest : List Byte}
    (h : rest.length < blLength low high) : blDecodeBody tie (tag :: rep :: low :: high :: rest) = .error .format :=
  if_pos h

/-- An escape with fewer than two bytes after it. -/
theorem blMagnitudes_of_escape_cut {cut : List Byte} (h : cut = [] ∨ ∃ b, cut = [b]) :
    blMagnitudes (0#8 :: cut) = .error .format := by
  rcases h with rfl | ⟨b, rfl⟩ <;> simp [blMagnitudes]

/-- Settles O54: each test of R220 in turn, the last one after the entries before the cut escape are read. -/
theorem blDecRefusesMalformedStreams : Obligations.BlDecRefusesMalformedStreams := by
  refine fun s => ⟨fun htag => ?_, fun hshort => ?_, fun tag rep low high rest hB hcut => ?_,
    fun rep es cut tail hes hcut hlen hB => ?_⟩
  · exact exec_blDec_of_error (if_pos htag)
  · exact exec_blDec_of_error (blDecode_of_body_error (blDecodeBody_of_short _ hshort))
  · have hbody := blDecodeBody_of_payload_cut s.cfg.roundTie tag rep hcut
    exact exec_blDec_of_error (blDecode_of_body_error (hB ▸ hbody))
  · refine exec_blDec_of_error (e := .format) ?_
    rw [hB, blDecode_blBytes _ _ hlen, blMagnitudes_payloadOf_append hes, blMagnitudes_of_escape_cut hcut]
    rfl

/-! ### The canonical stream is read back (R229) -/

/-- BL.ENC takes the escape form where one byte does not hold the magnitude (R214). -/
def canonicalEntry (m : Nat) : Nat × Bool := (m, decide (255 < m))

theorem blEntryBytes_eq_entryForm (m : Nat) : blEntryBytes m = entryForm m (decide (255 < m)) := by
  rcases le_or_gt m 255 with h | h
  · simp [blEntryBytes, entryForm, h]
  · simp [blEntryBytes, entryForm, h, Nat.not_le.mpr h]

theorem flatMap_blEntryBytes (ms : List Nat) : ms.flatMap blEntryBytes = payloadOf (ms.map canonicalEntry) := by
  rw [payloadOf, List.flatMap_map]
  exact List.flatMap_congr fun m _ => blEntryBytes_eq_entryForm m

theorem entriesOk_canonicalEntry {ms : List Nat} (h : ∀ m ∈ ms, 1 ≤ m ∧ m ≤ 65535) :
    EntriesOk (ms.map canonicalEntry) := by
  refine List.forall_mem_map.mpr fun m hm => ?_
  obtain ⟨hpos, hmax⟩ := h m hm
  exact ⟨hmax, fun hone => ⟨hpos, not_lt.mp (of_decide_eq_false hone)⟩⟩

theorem map_fst_canonicalEntry (ms : List Nat) : (ms.map canonicalEntry).map (·.1) = ms := by
  simp [canonicalEntry, Function.comp_def]

/-- BL.DEC reads a canonical stream, when its Durations fit `D`. -/
theorem exec_blDec_of_canonical {s : State} {rep : Byte} {ms : List Nat} {tail : List Byte}
    (hms : ∀ m ∈ ms, 1 ≤ m ∧ m ≤ 65535) (hlen : (ms.flatMap blEntryBytes).length ≤ 65535)
    (hB : s.bufB = blBytes rep (ms.flatMap blEntryBytes) tail) (hroom : room s.cfg.dcap ms.length = true) :
    exec .blDec s = .next (blDecoded s rep ms tail) := by
  rw [flatMap_blEntryBytes] at hlen hB
  obtain ⟨hread, -⟩ := blDecReadsTheStream s rep _ tail (entriesOk_canonicalEntry hms) hlen hB
  rw [map_fst_canonicalEntry, List.length_map] at hread
  exact hread hroom

/-- Padding of zeros sets no warning (R226). -/
theorem blDecoded_blPadding_status (s : State) (rep : Byte) (ms : List Nat) (L : Nat) :
    (blDecoded s rep ms (blPadding L)).status = s.status := by
  simp [blDecoded, blPadding]

/-! ### The decoded signal is encoded to the same stream (R229) -/

/-- The microseconds of a magnitude (30_encoding.md R89). -/
def blMicros (tie : RoundTie) (m : Nat) : Rat := (roundRat tie ((m : Rat) * blUnscale) : Rat)

theorem blDurations_cons (tie : RoundTie) (mark : Bool) (m : Nat) (ms : List Nat) :
    blDurations tie mark (m :: ms)
      = (if mark then blMicros tie m else -blMicros tie m) :: blDurations tie (!mark) ms := rfl

theorem abs_blMicros_sub_le (tie : RoundTie) (m : Nat) : |(m : Rat) * (8192 / 269) - blMicros tie m| ≤ 1 / 2 :=
  (roundRat_nearest tie _ _).trans (abs_sub_round _)

/-- One tick is more than 30 microseconds: a magnitude that is not zero gives a Duration that is not zero. -/
theorem blMicros_pos (tie : RoundTie) {m : Nat} (h : 1 ≤ m) : 0 < blMicros tie m := by
  have hm : (1 : Rat) ≤ (m : Rat) := by exact_mod_cast h
  obtain ⟨-, hnear⟩ := abs_le.mp (abs_blMicros_sub_le tie m)
  linarith

/-- Rounding moved the Duration by far less than half a tick, so it scales back to its magnitude (30_encoding.md R89). -/
theorem blMagnitude_of_abs_eq (tie : RoundTie) {m : Nat} {d : Rat} (h : |d| = blMicros tie m) :
    blMagnitude tie d = m := by
  obtain ⟨hlow, hhigh⟩ := abs_le.mp (abs_blMicros_sub_le tie m)
  rw [blMagnitude_eq, h]
  apply roundRat_eq_of_abs_sub_lt_half
  rw [abs_lt, Int.cast_natCast]
  constructor <;> linarith

theorem abs_ite_neg_blMicros (tie : RoundTie) (mark : Bool) (m : Nat) :
    |if mark then blMicros tie m else -blMicros tie m| = blMicros tie m := by
  have hnonneg : 0 ≤ blMicros tie m :=
    Int.cast_nonneg (roundRat_nonneg tie (mul_nonneg m.cast_nonneg (by norm_num [blUnscale])))
  cases mark <;> simp [abs_of_nonneg hnonneg]

theorem map_blMagnitude_blDurations (tie : RoundTie) (mark : Bool) (ms : List Nat) :
    (blDurations tie mark ms).map (fun x => (blMagnitude tie x).toNat) = ms := by
  induction ms generalizing mark with
  | nil => rfl
  | cons m ms ih =>
    rw [blDurations_cons, List.map_cons, ih, blMagnitude_of_abs_eq tie (abs_ite_neg_blMicros tie mark m),
      Int.toNat_natCast]

/-- Magnitudes that are not zero are a signal without zeros, mark and space in turn (R224). -/
theorem blDurations_alternates (tie : RoundTie) (mark : Bool) {ms : List Nat} (h : ∀ m ∈ ms, 1 ≤ m) :
    Alternates (if mark then 1 else -1) (blDurations tie mark ms) := by
  induction ms generalizing mark with
  | nil => trivial
  | cons m ms ih =>
    obtain ⟨hm, hms⟩ := List.forall_mem_cons.mp h
    have hpos := blMicros_pos tie hm
    have hrest := ih (!mark) hms
    rw [blDurations_cons]
    cases mark with
    | true => exact ⟨hpos.ne', cls_of_nonneg hpos.le, hrest⟩
    | false => exact ⟨(neg_lt_zero.mpr hpos).ne, cls_of_neg (neg_lt_zero.mpr hpos), hrest⟩

/-- BL.ENC neither merges nor inserts a Duration of a decoded signal that ends with a space, and scales each back. -/
theorem blMagnitudesOf_blSignal (tie : RoundTie) {ms : List Nat} (hms : ∀ m ∈ ms, 1 ≤ m) (heven : ms.length % 2 = 0) :
    blMagnitudesOf tie (blSignal tie ms) = ms := by
  have hnormalized : Normalized (blSignal tie ms) := by
    rw [normalized_iff_alternates, ← blDurations_eq_blSignal]
    exact blDurations_alternates tie true hms
  rw [blMagnitudesOf_eq, simplify_of_normalized hnormalized, paired_of_normalized hnormalized, closeWith,
    if_pos (by rwa [blSignal_length]), ← blDurations_eq_blSignal, map_blMagnitude_blDurations]

/-- `P_BLREP` holds a decoded repeat byte as a count of 0 to 255 (R220). -/
theorem toInt_ofNat_repeatByte (rep : Byte) : (BitVec.ofNat 32 rep.toNat).toInt = rep.toNat := by
  have := rep.isLt
  rw [BitVec.toInt_ofNat', Int.bmod_eq_of_le] <;> omega

theorem blStreamOf_blSignal (tie : RoundTie) (rep : Byte) {ms : List Nat} (hms : ∀ m ∈ ms, 1 ≤ m)
    (heven : ms.length % 2 = 0) :
    blStreamOf tie rep.toNat (blSignal tie ms)
      = blBytes rep (ms.flatMap blEntryBytes) (blPadding (ms.flatMap blEntryBytes).length) := by
  rw [blStreamOf, blMagnitudesOf_blSignal tie hms heven, BitVec.ofInt_natCast, BitVec.ofNat_toNat, BitVec.setWidth_eq]

theorem blAccepts_blSignal (tie : RoundTie) (rep : Byte) {ms : List Nat} (hms : ∀ m ∈ ms, 1 ≤ m ∧ m ≤ 65535)
    (heven : ms.length % 2 = 0) (hlen : (ms.flatMap blEntryBytes).length ≤ 65535) :
    BlAccepts tie rep.toNat (blSignal tie ms) := by
  have hrep := rep.isLt
  rw [BlAccepts, blMagnitudesOf_blSignal tie (fun m hm => (hms m hm).1) heven]
  exact ⟨by unfold fieldRange; omega, fun m hm => (hms m hm).2, hlen⟩

/-- BL.ENC leaves the block as it was when `B` holds the stream it would write. -/
theorem exec_blEnc_eq_self {t : State} {rep : Int} {d : List Rat} (hrep : t.pBlrep.toInt = rep) (hd : t.bufD = d)
    (haccepts : BlAccepts t.cfg.roundTie rep d) (hstream : blStreamOf t.cfg.roundTie rep d = t.bufB)
    (hroom : room t.cfg.bcap t.bufB.length = true) : exec .blEnc t = .next t := by
  subst hrep hd
  rw [exec_blEnc_of_accepts haccepts (by rwa [hstream]), hstream]

/-- Settles O55: the decoded signal is normalized, ends with a space and scales back to the magnitudes read. -/
theorem broadlinkRoundTrip : Obligations.BroadlinkRoundTrip := by
  intro s rep ms hms heven hlen hB hroomD hroomB
  have haccepts := blAccepts_blSignal s.cfg.roundTie rep hms heven hlen
  have hstream := blStreamOf_blSignal s.cfg.roundTie rep (fun m hm => (hms m hm).1) heven
  exact ⟨_, exec_blDec_of_canonical hms hlen hB hroomD, rfl, blDecoded_blPadding_status s rep ms _,
    exec_blEnc_eq_self (toInt_ofNat_repeatByte rep) rfl haccepts (hstream.trans hB.symm) hroomB⟩

/-! ### The warning (R226; 60_exceptions.md R310) -/

/-- A command keeps WARN, or is RESET and clears it, or is BL.DEC completing normally and sets it. -/
theorem exec_warn_cases {i : Instr} {s t : State} (h : exec i s = .next t) :
    t.warn = s.warn ∨ (i = .reset ∧ t.warn = false) ∨ (i = .blDec ∧ t.warn = true ∧ t.fault = s.fault) := by
  rcases exec_cases h with ⟨hi, rfl⟩ | ⟨e, rfl⟩ | ⟨-, hkept | ⟨hi, hwarn⟩⟩
  · exact .inr (.inl ⟨hi, clear_warn s⟩)
  · exact .inl (raise_warn s e)
  · obtain ⟨-, hsame, -⟩ := flags_of_status_eq hkept
    exact .inl hsame
  · refine .inr (.inr ⟨hi, ?_, ?_⟩)
    · rw [State.warn, hwarn, statusWarn_or_warn]
    · rw [State.fault, hwarn, statusFault_or_warn]; rfl

/-- A write to `CMD` keeps WARN, or is the word of RESET, or the word of BL.DEC outside FAULT (48_system.md R271). -/
theorem command_warn_cases {c : Word} {s t : State} (h : command c s = .next t) :
    t.warn = s.warn ∨ (c = encode .reset ∧ t.warn = false)
      ∨ (c = encode .blDec ∧ t.warn = true ∧ t.fault = false) := by
  rcases command_cases c s with ⟨hc, h'⟩ | ⟨-, -, h'⟩ | ⟨hc, hidle, i, hi, h'⟩ | ⟨-, -, r, -, h'⟩ <;> rw [h'] at h
  · cases h; exact .inr (.inl ⟨hc, clear_warn s⟩)
  · cases h; exact .inl rfl
  · have hword := eq_encode_of_decode hi
    rcases exec_warn_cases h with hkept | ⟨rfl, -⟩ | ⟨rfl, hset, hfault⟩
    · exact .inl hkept
    · exact absurd hword hc
    · exact .inr (.inr ⟨hword, hset, hfault.trans hidle⟩)
  · cases h; exact .inl (raise_warn s _)

theorem unlessFault_keeps_warn {s t : State} {r : Result} (hr : ∀ w, r = .next w → w.warn = s.warn)
    (h : unlessFault s r = .next t) : t.warn = s.warn := by
  rcases unlessFault_cases h with ⟨-, rfl⟩ | ⟨-, h'⟩
  · rfl
  · exact hr t h'

/-- Of the host's actions, only a reset clears WARN and only the word of BL.DEC sets it. -/
theorem performIdle_warn_cases {a : HostAction} {s t : State} (h : performIdle a s = .next t) :
    t.warn = s.warn ∨ ((a = .cmd (encode .reset) ∨ a = .hardwareReset) ∧ t.warn = false)
      ∨ (a = .cmd (encode .blDec) ∧ t.warn = true ∧ t.fault = false) := by
  cases a with
  | setInt r v | setRat r v =>
    refine .inl (unlessFault_keeps_warn (fun w hw => ?_) h)
    cases hw
    simp [State.warn]
  | loadD xs | loadE xs | loadB xs | loadW xs | loadS xs =>
    refine .inl (unlessFault_keeps_warn (fun w hw => ?_) h)
    rw [(load_cases hw).2]
    rfl
  | get r | read b => cases h; exact .inl rfl
  | cmd c =>
    rcases command_warn_cases h with hkept | ⟨rfl, hclear⟩ | ⟨rfl, hset⟩
    · exact .inl hkept
    · exact .inr (.inl ⟨.inl rfl, hclear⟩)
    · exact .inr (.inr ⟨rfl, hset⟩)
  | hardwareReset => cases h; exact .inr (.inl ⟨.inr rfl, clear_warn s⟩)

/-- A step keeps WARN, or its action is one of the three that write it. -/
theorem step_warn_cases {s t : State} (h : step s = .next t) :
    t.warn = s.warn ∨ ∃ a rest, s.pending = a :: rest
      ∧ (((a = .cmd (encode .reset) ∨ a = .hardwareReset) ∧ t.warn = false)
        ∨ (a = .cmd (encode .blDec) ∧ t.warn = true ∧ t.fault = false)) := by
  rcases step_cases h with ⟨-, rfl⟩ | ⟨a, rest, hpending, ha⟩
  · exact .inl rfl
  · exact (performIdle_warn_cases (perform_cases ha).2).imp id fun hwrites => ⟨a, rest, hpending, hwrites⟩

/-- Settles O19: a change of WARN is one of the two writes of `step_warn_cases`, told apart by the new value. -/
theorem onlyBlDecSetsAndOnlyResetClearsTheWarning : Obligations.OnlyBlDecSetsAndOnlyResetClearsTheWarning := by
  refine ⟨fun s t h hbefore hafter => ?_, fun s t h hbefore hafter => ?_⟩
  · rcases step_warn_cases h with hkept | ⟨a, rest, hpending, ⟨ha, -⟩ | ⟨-, hset, -⟩⟩
    · cases hbefore.symm.trans (hkept.symm.trans hafter)
    · rcases ha with rfl | rfl
      · exact ⟨rest, .inl hpending⟩
      · exact ⟨rest, .inr hpending⟩
    · cases hset.symm.trans hafter
  · rcases step_warn_cases h with hkept | ⟨a, rest, hpending, ⟨-, hclear⟩ | ⟨rfl, -, hfault⟩⟩
    · cases hbefore.symm.trans (hkept.symm.trans hafter)
    · cases hclear.symm.trans hafter
    · exact ⟨hfault, rest, hpending⟩

end Sys2Proof.Proofs
end

section
/-! PROOFS. The statements of 47_pronto.md: what the Pronto encoders refuse (R240, R245) and the codes PRONTO.DEC refuses
(R252, R253). -/

namespace Sys2Proof.Proofs

open Sys2Proof.Machine Sys2Proof.Claims

/-! ### A clock the encoders refuse (R240, R245) -/

theorem prontoBaseOk_eq_false {base : Int} (h : base < 1 ∨ 65535 < base) : prontoBaseOk base = false := by
  rw [prontoBaseOk, Bool.and_eq_false_iff, decide_eq_false_iff_not, decide_eq_false_iff_not, max16]
  omega

theorem prontoClockBase_of_unfit {base : Int} (h : base < 1 ∨ 65535 < base) :
    prontoClockBase base = .error .domain := by
  simp [prontoClockBase, prontoBaseOk_eq_false h]

theorem prontoClockFreq_of_nonpos {freq : Rat} (h : freq ≤ 0) : prontoClockFreq freq = .error .domain := if_pos h

/-- Word 1 of PRONTO.ENC.FREQ is the floor of R242, and has to fit its word like any other. -/
theorem prontoClockFreq_of_unfit {freq : Rat}
    (h : ⌊500000 / (freq * 120623)⌋ < 1 ∨ 65535 < ⌊500000 / (freq * 120623)⌋) :
    prontoClockFreq freq = .error .domain := by
  rw [← prontoBaseOf_eq] at h
  simp [prontoClockFreq, prontoBaseOk_eq_false h]

theorem exec_prontoEncBase_of_clock_error {s : State} (h : prontoClockBase s.pBase.toInt = .error .domain) :
    exec .prontoEncBase s = .next (domainError s) := by
  rw [exec, execProntoEncBase, h, ← raise_domain]
  rfl

theorem exec_prontoEncFreq_of_clock_error {s : State} (h : prontoClockFreq s.qFreq = .error .domain) :
    exec .prontoEncFreq s = .next (domainError s) := by
  rw [exec, execProntoEncFreq, h, ← raise_domain]
  rfl

/-! ### A pair count or a count the encoders refuse (R245) -/

/-- One count above its word is enough, wherever it stands in the signal. -/
theorem prontoCounts_of_lt {freq : Rat} {xs : List Rat} (h : ∃ x ∈ xs, 65535 < ⌊|x| * freq⌋) :
    prontoCounts freq xs = .error .domain := by
  induction xs with
  | nil => simp at h
  | cons x xs ih =>
    rw [prontoCounts, prontoCount_eq, max16]
    obtain ⟨y, hy, hlarge⟩ := h
    rcases List.mem_cons.mp hy with rfl | hrest
    · rw [if_pos hlarge]
    · rw [ih ⟨y, hrest, hlarge⟩, ite_self]

/-- Pair counts that fit leave a count as the reason why a code does not (R245). -/
theorem exists_count_of_not_prontoFits {freq : Rat} {d e : List Rat} (h : ¬ ProntoFits freq d e)
    (hd : (prontoPairs d).length / 2 ≤ 65535) (he : (prontoPairs e).length / 2 ≤ 65535) :
    ∃ x ∈ prontoPairs d ++ prontoPairs e, 65535 < ⌊|x| * freq⌋ := by
  by_contra hnone
  refine h ⟨hd, he, fun c hc => ?_⟩
  obtain ⟨x, hx, rfl⟩ := List.mem_map.mp hc
  have hcount : ¬ 65535 < ⌊|x| * freq⌋ := fun hlarge => hnone ⟨x, hx, hlarge⟩
  omega

theorem prontoBody_of_not_fits (c : ProntoClock) {d e : List Rat} (h : ¬ ProntoFits c.freq d e) :
    prontoBody c d e = .error .domain := by
  have hpairs (xs) : paired (simplify xs) 0 = prontoPairs xs := paired_simplify xs 0
  simp only [prontoBody, hpairs]
  split
  case isTrue => rfl
  case isFalse hheader =>
    rw [max16] at hheader
    rw [prontoCounts_of_lt (exists_count_of_not_prontoFits h (by omega) (by omega))]

/-- Settles O58: the clock source is refused first, then a pair count, then a count. -/
theorem prontoEncodersRefuseWhatDoesNotFit : Obligations.ProntoEncodersRefuseWhatDoesNotFit := by
  refine fun s => ⟨fun hbase => ?_, fun hfreq => ?_, fun _ hbase => ?_, fun i base freq hclock hfits => ?_⟩
  · exact exec_prontoEncBase_of_clock_error (prontoClockBase_of_unfit hbase)
  · exact exec_prontoEncFreq_of_clock_error (prontoClockFreq_of_nonpos hfreq)
  · exact exec_prontoEncFreq_of_clock_error (prontoClockFreq_of_unfit hbase)
  · rw [exec_of_prontoClockOf hclock, prontoBody_of_not_fits _ hfits, commitW, settle_bounded_error, raise_domain]

/-! ### Malformed codes (R252, R253) -/

/-- PRONTO.DEC raises FormatError alone. -/
theorem exec_prontoDec_of_error {s : State} {e : Err} (h : prontoDecode s.cfg.roundTie s.bufW = .error e) :
    exec .prontoDec s = .next (formatError s) := by
  rw [exec_prontoDec, h, settle_bounded_error, prontoDecode_error h, raise_format]

/-- Whatever the tag, a code that fails a later test is refused: both raise FormatError. -/
theorem prontoDecode_of_body_error {tie : RoundTie} {ws : List Half} (h : prontoDecodeBody tie ws = .error .format) :
    prontoDecode tie ws = .error .format := by
  rw [prontoDecode, h, ite_self]

theorem prontoDecodeBody_of_short (tie : RoundTie) {ws : List Half} (h : ws.length < 4) :
    prontoDecodeBody tie ws = .error .format := by
  unfold prontoDecodeBody
  split
  · simp only [List.length_cons] at h
    omega
  · rfl

theorem prontoDecodeBody_of_base_zero (tie : RoundTie) (tag n1 n2 : Half) (rest : List Half) :
    prontoDecodeBody tie (tag :: 0#16 :: n1 :: n2 :: rest) = .error .format := by
  rw [prontoDecodeBody, if_pos rfl]

/-- Whatever the base, a code with fewer words than its header announces is refused. -/
theorem prontoDecodeBody_of_too_few (tie : RoundTie) (tag base : Half) {n1 n2 : Half} {rest : List Half}
    (h : rest.length < 2 * (n1.toNat + n2.toNat)) :
    prontoDecodeBody tie (tag :: base :: n1 :: n2 :: rest) = .error .format := by
  rw [prontoDecodeBody, if_pos h, ite_self]

/-- Settles O60: each test of R252 and R253 in turn. -/
theorem prontoDecRefusesMalformedCodes : Obligations.ProntoDecRefusesMalformedCodes := by
  refine fun s => ⟨fun htag => ?_, fun hshort => ?_, fun tag n1 n2 rest hW => ?_,
    fun tag base n1 n2 rest hW hfew => ?_⟩
  · exact exec_prontoDec_of_error (if_pos htag)
  · exact exec_prontoDec_of_error (prontoDecode_of_body_error (prontoDecodeBody_of_short _ hshort))
  · have hbody := prontoDecodeBody_of_base_zero s.cfg.roundTie tag n1 n2 rest
    exact exec_prontoDec_of_error (prontoDecode_of_body_error (hW ▸ hbody))
  · have hbody := prontoDecodeBody_of_too_few s.cfg.roundTie tag base hfew
    exact exec_prontoDec_of_error (prontoDecode_of_body_error (hW ▸ hbody))

end Sys2Proof.Proofs
end

section
/-! PROOFS. The statement of 48_system.md: one write of a word to `CMD` is one step (R271). -/

namespace Sys2Proof.Proofs

open Sys2Proof.Machine Sys2Proof.Claims

/-- In FAULT every word but that of RESET is ignored. -/
theorem command_of_fault {c : Word} {s : State} (hc : c ≠ 0x00000001#32) (hf : s.fault = true) :
    command c s = .next s := by
  have hword : c ≠ encode .reset := hc
  rw [command, if_neg hword, if_pos hf]

/-- In IDLE a word that decodes runs its command, the word of RESET included. -/
theorem command_of_decode {c : Word} {i : Instr} {s : State} (hf : s.fault = false) (h : decode c = .ok i) :
    command c s = exec i s := by
  rcases command_cases c s with ⟨rfl, hrun⟩ | ⟨-, hfault, -⟩ | ⟨-, -, j, hj, hrun⟩ | ⟨-, -, r, hr, -⟩
  · cases (decode_encode .reset).symm.trans h
    exact hrun
  · cases hf.symm.trans hfault
  · cases hj.symm.trans h
    exact hrun
  · cases hr.symm.trans h

theorem legalWord_of_decode {c : Word} {i : Instr} (h : decode c = .ok i) : legalWord c = true :=
  eq_encode_of_decode h ▸ legalWord_encode i

/-- In IDLE a word that breaks a field rule raises IllegalCommand (R302): neither RESET nor any other command has it. -/
theorem command_of_illegal {c : Word} {s : State} (hf : s.fault = false) (h : legalWord c = false) :
    command c s = .next (illegalCommand s) := by
  rcases command_cases c s with ⟨rfl, -⟩ | ⟨-, hfault, -⟩ | ⟨-, -, i, hi, -⟩ | ⟨-, -, r, -, hraise⟩
  · cases (legalWord_encode .reset).symm.trans h
  · cases hf.symm.trans hfault
  · cases (legalWord_of_decode hi).symm.trans h
  · rw [hraise, raise_illegalCommand]

/-- Settles O3: an idle step takes the write off the host's list and is `command`. -/
theorem stepRunsTheDecodedCommand : Obligations.StepRunsTheDecodedCommand := by
  intro s c rest hb h
  rw [step_of_idle hb h]
  refine ⟨?_, fun hc hf => ?_, fun hf i hi => ?_, fun hf hillegal => ?_⟩
  · rintro rfl
    exact command_reset _
  · exact command_of_fault hc hf
  · exact command_of_decode hf hi
  · exact command_of_illegal hf hillegal

end Sys2Proof.Proofs
end

section
/-! PROOFS. The statements of 60_exceptions.md: the codes (R300, R304), what the FAULT state ignores and answers (R305), the
way out of it (R306), and a block with nothing to do (R320). -/

namespace Sys2Proof.Proofs

open Sys2Proof.Machine Sys2Proof.Claims

/-! ### The FAULT state (R305, R306) -/

/-- In FAULT a SET or a LOAD is ignored, whatever it would have done. -/
theorem unlessFault_of_fault {s : State} (hf : s.fault = true) (r : Result) : unlessFault s r = .next s := if_pos hf

/-- In FAULT the word of RESET resets and every other word changes nothing. -/
theorem command_fault_cases {c : Word} {s t : State} (hf : s.fault = true) (h : command c s = .next t) :
    (c = 0x00000001#32 ∧ t = s.clear) ∨ t = s := by
  by_cases hc : c = 0x00000001#32
  · subst hc
    rw [command_reset] at h
    cases h
    exact .inl ⟨rfl, rfl⟩
  · rw [command_of_fault hc hf] at h
    cases h
    exact .inr rfl

/-- What an action of the host can do in FAULT: reset the block, nothing, or hand over an answer. -/
theorem performIdle_fault_cases {a : HostAction} {s t : State} (hf : s.fault = true) (h : performIdle a s = .next t) :
    ((a = .cmd 0x00000001#32 ∨ a = .hardwareReset) ∧ t = s.clear) ∨ t = s ∨ ∃ x, t = s.answer x := by
  cases a with
  | setInt r v | setRat r v | loadD xs | loadE xs | loadB xs | loadW xs | loadS xs =>
    rw [performIdle, unlessFault_of_fault hf] at h
    cases h
    exact .inr (.inl rfl)
  | get r | read b => cases h; exact .inr (.inr ⟨_, rfl⟩)
  | cmd c =>
    rcases command_fault_cases hf h with ⟨rfl, hclear⟩ | hsame
    · exact .inl ⟨.inl rfl, hclear⟩
    · exact .inr (.inl hsame)
  | hardwareReset => cases h; exact .inl ⟨.inr rfl, rfl⟩

/-- An action of the host that ends FAULT is one of the two resets. -/
theorem performIdle_leaves_fault {a : HostAction} {s t : State} (hf : s.fault = true) (h : performIdle a s = .next t)
    (ht : t.fault = false) : (a = .cmd 0x00000001#32 ∨ a = .hardwareReset) ∧ t = s.clear := by
  rcases performIdle_fault_cases hf h with hreset | rfl | ⟨x, rfl⟩
  · exact hreset
  · cases hf.symm.trans ht
  · have hkept : (s.answer x).fault = s.fault := rfl
    cases (hkept.trans hf).symm.trans ht

/-- Settles O11: the action a step performs is taken off the list first, and only a reset ends FAULT. -/
theorem onlyAResetLeavesTheFaultState : Obligations.OnlyAResetLeavesTheFaultState := by
  intro s t hf h ht
  rcases step_cases h with ⟨-, rfl⟩ | ⟨a, rest, hpending, ha⟩
  · cases hf.symm.trans ht
  obtain ⟨-, hidle⟩ := perform_cases ha
  obtain ⟨hreset, rfl⟩ := performIdle_leaves_fault (s := s.withPending rest) hf hidle ht
  refine ⟨rest, ?_, clear_withPending s rest⟩
  rcases hreset with rfl | rfl
  · exact .inl hpending
  · exact .inr hpending

/-- Settles O12: commands, SETs and LOADs are ignored by `command` and `unlessFault`; GET and READ do not test FAULT. -/
theorem faultStateIgnoresCommandsAndHostWrites : Obligations.FaultStateIgnoresCommandsAndHostWrites := by
  intro s a rest hb hf h
  rw [step_of_idle hb h]
  have hignored (r : Result) : unlessFault (s.withPending rest) r = .next (s.withPending rest) :=
    unlessFault_of_fault (s := s.withPending rest) hf r
  refine ⟨?_, ?_, ?_, ?_, ?_, ?_, ?_, ?_, ?_⟩
  · rintro c rfl hc; exact command_of_fault hc hf
  · rintro r v rfl; exact hignored _
  · rintro r v rfl; exact hignored _
  · rintro xs (rfl | rfl) <;> exact hignored _
  · rintro xs rfl; exact hignored _
  · rintro xs rfl; exact hignored _
  · rintro xs rfl; exact hignored _
  · rintro r rfl; rfl
  · rintro b rfl; rfl

/-! ### Nothing pending, and the error kinds (R300, R304, R320) -/

/-- Settles O16: a step has nothing to perform. -/
theorem withNothingPendingNothingChanges : Obligations.WithNothingPendingNothingChanges := step_of_no_pending

/-- Settles O18: the entry into FAULT, kind by kind. -/
theorem errorKindsHaveTheirCodes : Obligations.ErrorKindsHaveTheirCodes := fun s d u e =>
  ⟨raise_domain s, raise_timing s d u e, raise_protocolDecode s, raise_format s, raise_illegalCommand s,
    raise_overflow s⟩

end Sys2Proof.Proofs
end
